-- ==== Sys2Proof/Word.lean ====
section
/-! DEFINITION. The byte and the byte vector of `00_scope.md` rule R12. -/

namespace Sys2Proof

/-- A byte: 8 bits, bit 0 the least significant (R12). -/
abbrev Byte := BitVec 8

/-- A byte vector of length `n`; index 0 is the byte of the lowest register address (R12, R44). -/
abbrev ByteVec (n : Nat) := Fin n → Byte

end Sys2Proof
end

