-- ==== Sys2Proof/Syntax.lean ====
section
/-! DEFINITION. The five operations of the opcode map, `30_encoding.md` rule R61. -/

namespace Sys2Proof

/-- One constructor per row of `opcode_table.json`. -/
inductive Instr where
  /-- INIT `osr`: the one operand of the command set, `zext_3(CMD[2:0])`, a number 0 to 7 (R62). -/
  | init (osr : Nat)
  /-- SAMPLE (R90). -/
  | sample
  /-- COMPT (R104). -/
  | compt
  /-- COMPP (R106). -/
  | compp
  /-- COMPH (R110). -/
  | comph
  deriving DecidableEq, Repr

/-- Pseudo-operation COMP: the whole compensator (R74). -/
def Instr.pseudoComp : List Instr := [.compt, .compp, .comph]

/-- Pseudo-operation POLL: the block's share of one poll cycle (R75). -/
def Instr.pseudoPoll : List Instr := [.sample, .compt, .compp, .comph]

end Sys2Proof
end

