-- ==== Sys2Proof/WellFormed.lean ====
section
/-! DEFINITION. Which terms of `Instr` are commands: the operand of INIT fits its 3-bit field (R60, R62). -/

namespace Sys2Proof

/-- INIT's operand is 0 to 7: all eight values are legal COMMANDS; whether the value is a legal mode is INIT's own
check (R62, R82). The other operations have no operand. -/
def Instr.wf : Instr → Bool
  | .init osr => decide (osr ≤ 7)
  | .sample => true
  | .compt => true
  | .compp => true
  | .comph => true

end Sys2Proof
end

