-- ==== Sys2Proof/Decode.lean ====
section
/-! DEFINITION. The command word: decoding (R60 to R63, R77) and, after it, encoding (R61). -/

namespace Sys2Proof

/-- Why a command word is illegal: the three cases of R63, in the order it names them (log 20). -/
inductive IllegalWord where
  /-- `op` is 0x0 or 0x6 to 0xF. -/
  | opcode
  /-- `CMD[3] = 1`. -/
  | bitThree
  /-- `op` is 0x2 to 0x5 and `CMD[2:0] ≠ 0`. -/
  | operand
  deriving DecidableEq, Repr

/-- `CMD[7:4]`, the opcode field (R60). -/
def opField (w : Byte) : BitVec 4 := w.extractLsb' 4 4

/-- `CMD[2:0]`, the operand field (R60). -/
def osrField (w : Byte) : BitVec 3 := w.extractLsb' 0 3

/-- The name of the rejection of an illegal word (R63). -/
def illegalReason (w : Byte) : IllegalWord :=
  if opField w = 0x0 ∨ 0x6 ≤ (opField w).toNat then .opcode
  else if w.getLsbD 3 then .bitThree
  else .operand

/-- Decoding, complete, in the order of R77. -/
def decode (w : Byte) : Except IllegalWord Instr :=
  if w &&& 0xF8 = 0x10 then .ok (.init (osrField w).toNat)
  else if w = 0x20 then .ok .sample
  else if w = 0x30 then .ok .compt
  else if w = 0x40 then .ok .compp
  else if w = 0x50 then .ok .comph
  else .error (illegalReason w)

/-- The instruction the decoder reads from a table word of `nbits` bits: a command is one byte (R60). -/
def decodeTableWord (nbits w : Nat) : Option Instr :=
  if w % 2 ^ nbits < 256 then
    match decode (BitVec.ofNat 8 (w % 2 ^ nbits)) with
    | .ok i => some i
    | .error _ => none
  else none

/-- The command word of an operation: `op` in bits 7:4, bit 3 zero, the operand in bits 2:0 (R60, R61). -/
def commandWord (op : BitVec 4) (osr : BitVec 3) : Byte :=
  (op.setWidth 8 <<< 4) ||| osr.setWidth 8

/-- The command word of a well-formed instruction, from the opcode map of R61. -/
def encode : Instr → Byte
  | .init osr => commandWord 0x1 (BitVec.ofNat 3 osr)
  | .sample => commandWord 0x2 0
  | .compt => commandWord 0x3 0
  | .compp => commandWord 0x4 0
  | .comph => commandWord 0x5 0

end Sys2Proof
end

