-- ==== Sys2Proof/Config.lean ====
section
/-! DEFINITION. What is fixed when the block is built (R9, R27), and the free values: what the sensor answers where
no answer is listed (R47). -/

namespace Sys2Proof

/-- `DIV_ROUND`, the rounding of the one division in COMPP: `93_implementation_defined.md` U2 (log 5). -/
inductive DivRound where
  /-- Truncation toward zero, the spec's decision D5. -/
  | trunc
  /-- Rounding toward minus infinity, the alternative of R103. -/
  | floor
  deriving DecidableEq, Repr

/-- The OPEN parameters of R9 (R27: fixed when the block is built; no operation writes them), and `DIV_ROUND`. -/
structure Config where
  /-- `DEV_ADDR`, the sensor's bus address. -/
  devAddr : Byte
  /-- `CAL_A_BASE`, first register of the 26-byte calibration block. -/
  calABase : Byte
  /-- `CAL_B_BASE`, first register of the 7-byte calibration block. -/
  calBBase : Byte
  /-- `CTRL_HUM`, the humidity control register. -/
  ctrlHum : Byte
  /-- `CTRL_MEAS`, the main control register. -/
  ctrlMeas : Byte
  /-- `DATA_BASE`, the pressure-MSB register. -/
  dataBase : Byte
  /-- `DIV_ROUND`. -/
  divRound : DivRound
  deriving DecidableEq, Repr

/-- The defaults of R9 (D12, D5). -/
def Config.vendorDefault : Config where
  devAddr := 0x76
  calABase := 0x88
  calBBase := 0xE1
  ctrlHum := 0xF2
  ctrlMeas := 0xF4
  dataBase := 0xF7
  divRound := .trunc

/-- Free value (R47, log 8): whether bus transaction number `txn` fails, where `State.answers` lists no answer for it. -/
opaque Config.busFails (txn : Nat) : Bool

/-- Free value (R47, log 8, log 9): byte `i` of the answer to bus transaction number `txn`, where `State.answers`
does not list it. -/
opaque Config.sensorByte (txn i : Nat) : Byte

end Sys2Proof
end

