-- ==== Sys2Proof/Machine/State.lean ====
section
/-! DEFINITION. The architectural state of `10_state.md`, the inputs of a step (R39) and the bus trace (R94, R156);
the reasons a step could stop; the machine after reset (R38). -/

namespace Sys2Proof.Machine

/-- `PHASE`, the lifecycle state (R28). The code 3 is never held, so it has no constructor (U12, log 16). -/
inductive Phase where
  | uninitialized
  | calibrated
  | sampling
  deriving DecidableEq, Repr

/-- `STATUS`, the outcome of the most recent operation (R31, R130). The codes 5 to 7 are never written by the block, so
they have no constructor (U12, log 16). -/
inductive Status where
  | ok
  | configurationError
  | busError
  | sequenceError
  | illegalCommand
  deriving DecidableEq, Repr

/-- DOC's CalibrationSet: the 18 trim registers, each at the width of R20 and R21. A signed one is two's complement and
is read with `toInt`, an unsigned one with `toNat`. -/
structure Calibration where
  /-- u16 -/
  t1 : BitVec 16
  /-- s16 -/
  t2 : BitVec 16
  /-- s16 -/
  t3 : BitVec 16
  /-- u16 -/
  p1 : BitVec 16
  /-- s16 -/
  p2 : BitVec 16
  /-- s16 -/
  p3 : BitVec 16
  /-- s16 -/
  p4 : BitVec 16
  /-- s16 -/
  p5 : BitVec 16
  /-- s16 -/
  p6 : BitVec 16
  /-- s16 -/
  p7 : BitVec 16
  /-- s16 -/
  p8 : BitVec 16
  /-- s16 -/
  p9 : BitVec 16
  /-- u8 -/
  h1 : BitVec 8
  /-- s16 -/
  h2 : BitVec 16
  /-- u8 -/
  h3 : BitVec 8
  /-- s12 -/
  h4 : BitVec 12
  /-- s12 -/
  h5 : BitVec 12
  /-- s8 -/
  h6 : BitVec 8
  deriving DecidableEq, Repr

/-- DOC's RawSample: the three ADC counts, all unsigned (R22). -/
structure RawSample where
  adcP : BitVec 20
  adcT : BitVec 20
  adcH : BitVec 16
  deriving DecidableEq, Repr

/-- Which registers hold a value, that is, have been written since reset (R24, R38, log 2): one flag for each group that
one operation writes together. -/
structure Written where
  /-- T1 to T3, P1 to P9, H1 to H6 and OSR: written by INIT (R85). -/
  calibration : Bool
  /-- ADC_P, ADC_T, ADC_H: written by SAMPLE (R96). -/
  raw : Bool
  /-- T_FINE and TEMP: written by COMPT (R104). -/
  tFine : Bool
  /-- PRESS: written by COMPP (R106). -/
  press : Bool
  /-- HUM: written by COMPH (R110). -/
  hum : Bool
  deriving DecidableEq, Repr

/-- No register holds a value (R38). -/
def Written.nothing : Written where
  calibration := false
  raw := false
  tFine := false
  press := false
  hum := false

/-- What the host does to the block between two operations: present a command word, or reset it (R168, log 6). -/
inductive HostInput where
  | command (w : Byte)
  | reset
  deriving DecidableEq, Repr

/-- The sensor's answer to one bus transaction (R45 to R47): it completes, delivering these bytes if it is a read, or it
fails. -/
inductive BusAnswer where
  | ack (bytes : List Byte)
  | fail
  deriving DecidableEq, Repr

/-- One event of the bus trace (log 10). -/
inductive BusEvent where
  /-- `readBlock(dev, reg, n)` and whether it completed (R45). -/
  | read (dev reg : Byte) (n : Nat) (ok : Bool)
  /-- `writeBlock(dev, reg, bytes)` and whether it completed (R46). -/
  | write (dev reg : Byte) (bytes : List Byte) (ok : Bool)
  /-- `Wait(us)`: at least this many microseconds pass (R94). -/
  | wait (atLeastUs : Nat)
  deriving DecidableEq, Repr

/-- The whole machine. -/
structure State where
  /-- T1 to T3, P1 to P9 (R20), H1 to H6 (R21) -/
  cal : Calibration
  /-- `OSR` (R26) -/
  osr : BitVec 3
  /-- `ADC_P`, `ADC_T`, `ADC_H` (R22) -/
  raw : RawSample
  /-- `T_FINE` (R23, log 12) -/
  tFine : Int
  /-- `TEMP`, 1/100 °C (R25) -/
  temp : Int
  /-- `PRESS`, 1/256 Pa (R25) -/
  press : Int
  /-- `HUM`, 1/1024 %RH (R25) -/
  hum : Int
  /-- `PHASE` (R28) -/
  phase : Phase
  /-- `TF_VALID` (R29) -/
  tfValid : Bool
  /-- `STATUS` (R31) -/
  status : Status
  /-- which registers hold a value (R24) -/
  written : Written
  /-- the parameters of R27, constant; held here so that a statement about every state is one about every parameter
  value (log 3) -/
  config : Config
  /-- what the host presents next, oldest first (R39, R166, log 6) -/
  inputs : List HostInput
  /-- the sensor's next answers, oldest first (R39, R47, log 8) -/
  answers : List BusAnswer
  /-- number of bus transactions made, the argument of the free values (log 8) -/
  busCount : Nat
  /-- the bus trace, oldest event first (log 10) -/
  trace : List BusEvent
  deriving DecidableEq, Repr

/-- Reasons for the machine to stop with a fault: there are none, so the type has no constructor. Every fault of the
block is an outcome recorded in STATUS after which the host goes on; no fault leaves the block stuck (R135, R140,
log 13). -/
inductive Fault where
  deriving DecidableEq, Repr

/-- Reasons for a step to have no meaning. -/
inductive Refusal where
  /-- Raised by an arm of `exec` whose instruction has no meaning yet (safe); no arm raises it now. -/
  | notModelled (mnemonic : String)
  deriving DecidableEq, Repr

/-- Every trim register zero. The spec gives no value after reset (R38): DESIGN CHOICE, log 1. -/
def Calibration.zero : Calibration where
  t1 := 0
  t2 := 0
  t3 := 0
  p1 := 0
  p2 := 0
  p3 := 0
  p4 := 0
  p5 := 0
  p6 := 0
  p7 := 0
  p8 := 0
  p9 := 0
  h1 := 0
  h2 := 0
  h3 := 0
  h4 := 0
  h5 := 0
  h6 := 0

/-- Every raw count zero. The spec gives no value after reset (R38): DESIGN CHOICE, log 1. -/
def RawSample.zero : RawSample where
  adcP := 0
  adcT := 0
  adcH := 0

/-- The machine after reset. R38 gives PHASE, STATUS and TF_VALID and says no other register holds a value; the zeros
behind them are DESIGN CHOICE, log 1. The parameters have their defaults (R9, log 3); no input is pending (log 6 to 10). -/
def State.reset : State where
  cal := .zero
  osr := 0
  raw := .zero
  tFine := 0
  temp := 0
  press := 0
  hum := 0
  phase := .uninitialized
  tfValid := false
  status := .ok
  written := .nothing
  config := .vendorDefault
  inputs := []
  answers := []
  busCount := 0
  trace := []

end Sys2Proof.Machine
end

