-- ==== Sys2Proof/Machine/Flags.lean ====
section
/-! DEFINITION. PHASE, TF_VALID and STATUS: their codes (R28, R31), the legal modes (R26) and the admission table
(R133). -/

namespace Sys2Proof.Machine

/-- The numeric code of PHASE (R28). -/
def phaseCode : Phase → BitVec 2
  | .uninitialized => 0
  | .calibrated => 1
  | .sampling => 2

/-- The numeric code of STATUS (R31, R130). -/
def statusCode : Status → BitVec 3
  | .ok => 0
  | .configurationError => 1
  | .busError => 2
  | .sequenceError => 3
  | .illegalCommand => 4

/-- The legal oversampling modes are 1, 2, 3, 4 and 5 (R26, R82). -/
def legalMode (osr : Nat) : Bool := decide (1 ≤ osr ∧ osr ≤ 5)

/-- INIT is admitted only in Uninitialized (R84). -/
def admitsInit (s : State) : Bool := s.phase == .uninitialized

/-- SAMPLE is admitted in Calibrated and in Sampling (R91). -/
def admitsSample (s : State) : Bool := s.phase != .uninitialized

/-- COMPT is admitted in Sampling (R104). -/
def admitsCompt (s : State) : Bool := s.phase == .sampling

/-- COMPP and COMPH are admitted in Sampling with `TF_VALID` = 1 (R106, R110). -/
def admitsTFine (s : State) : Bool := s.phase == .sampling && s.tfValid

end Sys2Proof.Machine
end

