-- ==== Sys2Proof/Machine/Arith.lean ====
section
/-! DEFINITION. The arithmetic laws of `42_compensation.md` section 1: exact integers, with two shifts and one
division. -/

namespace Sys2Proof.Machine

/-- `a >> n` = floor(a / 2^n), for `a` of either sign (R101). -/
def shr (a : Int) (n : Nat) : Int := Int.fdiv a (2 ^ n)

/-- `a << n` = a * 2^n, exact (R102). -/
def shl (a : Int) (n : Nat) : Int := a * 2 ^ n

/-- `tdiv(a, b)`: the quotient rounded toward zero (R14, R103). -/
def tdiv (a b : Int) : Int := Int.tdiv a b

/-- The division of COMPP under the parameter `DIV_ROUND` (R103, U2): `tdiv` is the rule, the floor its alternative. -/
def roundDiv : DivRound → Int → Int → Int
  | .trunc, a, b => tdiv a b
  | .floor, a, b => Int.fdiv a b

end Sys2Proof.Machine
end

