-- ==== Sys2Proof/Machine/Operands.lean ====
section
/-! DEFINITION. The data encodings: calibration blocks A and B, the raw burst, the control bytes, the settle time
(`30_encoding.md` sections 2 to 5, `40_init_calibration.md` section 1, `41_sample.md` sections 1 and 2). -/

namespace Sys2Proof.Machine

/-- `u16le` of the bytes at the lower and the higher register address: the lower is the less significant (R49). Read
with `toInt` the same 16 bits are `s16le`. -/
def u16le (lo hi : Byte) : BitVec 16 := BitVec.ofNat 16 (lo.toNat + 256 * hi.toNat)

/-- `s12_lo`: the byte is bits 11:4, the LOW nibble of the shared byte bits 3:0 (R66, R89). Read with `toInt`. -/
def s12Lo (msb shared : Byte) : BitVec 12 := msb ++ shared.extractLsb' 0 4

/-- `s12_hi`: the byte is bits 11:4, the HIGH nibble of the shared byte bits 3:0 (R66, R89). Read with `toInt`. -/
def s12Hi (msb shared : Byte) : BitVec 12 := msb ++ shared.extractLsb' 4 4

/-- `unpack_cal_a` and `unpack_cal_b`, the 18 values of the two blocks (R87, R88; layouts R64, R65). Byte 24 of block A
is not used. -/
def unpackCal (a : ByteVec 26) (b : ByteVec 7) : Calibration where
  t1 := u16le (a 0) (a 1)
  t2 := u16le (a 2) (a 3)
  t3 := u16le (a 4) (a 5)
  p1 := u16le (a 6) (a 7)
  p2 := u16le (a 8) (a 9)
  p3 := u16le (a 10) (a 11)
  p4 := u16le (a 12) (a 13)
  p5 := u16le (a 14) (a 15)
  p6 := u16le (a 16) (a 17)
  p7 := u16le (a 18) (a 19)
  p8 := u16le (a 20) (a 21)
  p9 := u16le (a 22) (a 23)
  h1 := a 25
  h2 := u16le (b 0) (b 1)
  h3 := b 2
  h4 := s12Lo (b 3) (b 4)
  h5 := s12Hi (b 5) (b 4)
  h6 := b 6

/-- `be24`: three bytes, the one at the lowest register address the most significant (R50). -/
def be24 (b0 b1 b2 : Byte) : Nat := 65536 * b0.toNat + 256 * b1.toNat + b2.toNat

/-- `unpack_raw` (R95; layout R67): two 20-bit counts left-aligned in three bytes, and one 16-bit count. -/
def unpackRaw (r : ByteVec 8) : RawSample where
  adcP := BitVec.ofNat 20 (be24 (r 0) (r 1) (r 2) >>> 4)
  adcT := BitVec.ofNat 20 (be24 (r 3) (r 4) (r 5) >>> 4)
  adcH := BitVec.ofNat 16 (256 * (r 6).toNat + (r 7).toNat)

/-- `MODE_FORCED`, the selector that triggers one measurement (R71, D14). -/
def modeForced : BitVec 2 := 0b01

/-- `MODE_NORMAL`, the selector INIT writes (R71, D14). -/
def modeNormal : BitVec 2 := 0b11

/-- The humidity control byte: the oversampling value in bits 2:0, bits 7:3 zero (R68). -/
def ctrlHumByte (osrs : BitVec 3) : Byte := osrs.setWidth 8

/-- The main control byte `(osrs << 5) | (osrs << 2) | sel` (R69). -/
def ctrlMeasByte (osrs : BitVec 3) (sel : BitVec 2) : Byte :=
  (osrs.setWidth 8 <<< 5) ||| (osrs.setWidth 8 <<< 2) ||| sel.setWidth 8

/-- `T_SETTLE(m)` in microseconds: the temperature, pressure and humidity channels (R93). -/
def tSettle (osr : BitVec 3) : Nat :=
  1250 + 2300 * 2 ^ osr.toNat + (2300 * 2 ^ osr.toNat + 575) + (2300 * 2 ^ osr.toNat + 575)

end Sys2Proof.Machine
end

