-- ==== Sys2Proof/Machine/Ops.lean ====
section
/-! DEFINITION. The shared operations: ending an operation with or without a fault (R135), the bus port (R42 to R47),
the settle wait (R94), the register writes of the five operations, reset (R150), and what the host observes (R35). -/

namespace Sys2Proof.Machine

/-! ### Ending an operation -/

/-- `raise`: the operation stops, STATUS is written with the code, and control is back with the host. Nothing is pushed,
no mode changes, no vector is fetched, and there is no return operation (R135, R140). -/
def raise (f : Status) (s : State) : State := { s with status := f }

/-- An operation that ran to its end writes `STATUS <- OK`, its one write of STATUS (R31). -/
def complete (s : State) : State := { s with status := .ok }

/-! ### The bus port -/

/-- Whether the `k`-th bus transaction from now completes: the sensor's listed answer, else a free value (R47, log 8). -/
def busOk (s : State) (k : Nat) : Bool :=
  match s.answers[k]? with
  | some (.ack _) => true
  | some .fail => false
  | none => !Config.busFails (s.busCount + k)

/-- Byte `i` of what the `k`-th bus transaction from now delivers if it is a read: the listed byte, else a free value
(R47, log 8, log 9). -/
def busByte (s : State) (k i : Nat) : Byte :=
  match s.answers[k]? with
  | some (.ack bytes) => bytes[i]?.getD (Config.sensorByte (s.busCount + k) i)
  | some .fail => Config.sensorByte (s.busCount + k) i
  | none => Config.sensorByte (s.busCount + k) i

/-- One transaction has been made: its answer is used up and its event joins the trace (R53, R57). -/
def transact (e : BusEvent) (s : State) : State :=
  { s with answers := s.answers.tail, busCount := s.busCount + 1, trace := s.trace ++ [e] }

/-- `MemRead(reg, n)`: one `readBlock(DEV_ADDR, reg, n)`. Byte `i` of the answer is the byte of register `reg + i`; a
failed read delivers no bytes (R44, R45). -/
def memRead (reg : Byte) (n : Nat) (s : State) : Option (ByteVec n) × State :=
  (if busOk s 0 then some (fun i => busByte s 0 i) else none,
    transact (.read s.config.devAddr reg n (busOk s 0)) s)

/-- `MemWrite(reg, n, v)`: one `writeBlock(DEV_ADDR, reg, v)`, and whether it completed (R46). -/
def memWrite (reg : Byte) (v : List Byte) (s : State) : Bool × State :=
  (busOk s 0, transact (.write s.config.devAddr reg v (busOk s 0)) s)

/-- `Wait(us)`: no transaction and no register change for at least `us` microseconds, an event of the trace (R94). -/
def wait (us : Nat) (s : State) : State := { s with trace := s.trace ++ [.wait us] }

/-! ### The register writes of the operations -/

/-- INIT's commit: the 18 trims, OSR and PHASE together (R85). -/
def commitCalibration (osr : Nat) (a : ByteVec 26) (b : ByteVec 7) (s : State) : State :=
  { s with
    cal := unpackCal a b
    osr := BitVec.ofNat 3 osr
    phase := .calibrated
    written := { s.written with calibration := true } }

/-- SAMPLE's first effect after admission: `TF_VALID <- 0` (R99). -/
def clearTfValid (s : State) : State := { s with tfValid := false }

/-- SAMPLE's commit: the three counts together, and PHASE (R96). -/
def commitRaw (r : ByteVec 8) (s : State) : State :=
  { s with
    raw := unpackRaw r
    phase := .sampling
    written := { s.written with raw := true } }

/-- A failed SAMPLE: the abandoned cycle is over, PHASE becomes Calibrated, and the fault is raised (R97). -/
def sampleBusError (s : State) : State := raise .busError { s with phase := .calibrated }

/-- COMPT's writes: T_FINE, TEMP and `TF_VALID <- 1` (R104). -/
def writeTemperature (tFine temp : Int) (s : State) : State :=
  { s with
    tFine := tFine
    temp := temp
    tfValid := true
    written := { s.written with tFine := true } }

/-- COMPP's write: PRESS (R106). -/
def writePressure (press : Int) (s : State) : State :=
  { s with press := press, written := { s.written with press := true } }

/-- COMPH's writes: HUM, `TF_VALID <- 0`, and PHASE back to Calibrated (R110). -/
def writeHumidity (hum : Int) (s : State) : State :=
  { s with
    hum := hum
    tfValid := false
    phase := .calibrated
    written := { s.written with hum := true } }

/-! ### The host's side of the port -/

/-- The host has presented its next input: it is no longer pending (R60). -/
def takeInput (s : State) : State := { s with inputs := s.inputs.tail }

/-- Reset of the idle block (R150, R38): PHASE, STATUS and TF_VALID have their reset values and no register holds a
value (behind them stand the zeros of log 1). It makes no bus transaction, does not touch the sensor, and the
parameters stay fixed (R27, R151). -/
def resetBlock (s : State) : State :=
  { s with
    cal := .zero
    osr := 0
    raw := .zero
    tFine := 0
    temp := 0
    press := 0
    hum := 0
    phase := .uninitialized
    tfValid := false
    status := .ok
    written := .nothing }

/-- The registers the host can name (R35). -/
inductive Reg where
  | t1 | t2 | t3
  | p1 | p2 | p3 | p4 | p5 | p6 | p7 | p8 | p9
  | h1 | h2 | h3 | h4 | h5 | h6
  | adcP | adcT | adcH
  | tFine | tfValid
  | temp | press | hum
  | osr | phase | status
  deriving DecidableEq, Repr

/-- Whether a register holds a value (R24, R38). -/
def holdsValue (s : State) : Reg → Bool
  | .t1 | .t2 | .t3 => s.written.calibration
  | .p1 | .p2 | .p3 | .p4 | .p5 | .p6 | .p7 | .p8 | .p9 => s.written.calibration
  | .h1 | .h2 | .h3 | .h4 | .h5 | .h6 => s.written.calibration
  | .osr => s.written.calibration
  | .adcP | .adcT | .adcH => s.written.raw
  | .tFine | .temp => s.written.tFine
  | .press => s.written.press
  | .hum => s.written.hum
  | .tfValid | .phase | .status => true

/-- The contents of a register as an integer, at the signedness of R20 to R26. -/
def regValue (s : State) : Reg → Int
  | .t1 => s.cal.t1.toNat
  | .t2 => s.cal.t2.toInt
  | .t3 => s.cal.t3.toInt
  | .p1 => s.cal.p1.toNat
  | .p2 => s.cal.p2.toInt
  | .p3 => s.cal.p3.toInt
  | .p4 => s.cal.p4.toInt
  | .p5 => s.cal.p5.toInt
  | .p6 => s.cal.p6.toInt
  | .p7 => s.cal.p7.toInt
  | .p8 => s.cal.p8.toInt
  | .p9 => s.cal.p9.toInt
  | .h1 => s.cal.h1.toNat
  | .h2 => s.cal.h2.toInt
  | .h3 => s.cal.h3.toNat
  | .h4 => s.cal.h4.toInt
  | .h5 => s.cal.h5.toInt
  | .h6 => s.cal.h6.toInt
  | .adcP => s.raw.adcP.toNat
  | .adcT => s.raw.adcT.toNat
  | .adcH => s.raw.adcH.toNat
  | .tFine => s.tFine
  | .tfValid => s.tfValid.toNat
  | .temp => s.temp
  | .press => s.press
  | .hum => s.hum
  | .osr => s.osr.toNat
  | .phase => (phaseCode s.phase).toNat
  | .status => (statusCode s.status).toNat

/-- What the host observes between two operations: the register's contents, or nothing at all where it holds no value,
which is an error of the host's program and never zero (R24, R35, U5). Observing changes nothing (D19). -/
def observe (s : State) (r : Reg) : Option Int :=
  if holdsValue s r then some (regValue s r) else none

end Sys2Proof.Machine
end

