-- ==== Sys2Proof/Machine/Compensate.lean ====
section
/-! DEFINITION. COMPT, COMPP and COMPH (`42_compensation.md` sections 2 to 4). Every named intermediate of the rules is a
field of a record here: each is a rounding point (R112). The records are no state (R37 b, R148). -/

namespace Sys2Proof.Machine

/-! ### COMPT -/

/-- The intermediates and results of R104. -/
structure TempCalc where
  a : Int
  var1 : Int
  d : Int
  var2 : Int
  tFine : Int
  temp : Int
  deriving DecidableEq, Repr

/-- The expressions of R104. -/
def tempCalc (c : Calibration) (adcT : BitVec 20) : TempCalc :=
  let a := shr adcT.toNat 3 - shl c.t1.toNat 1
  let var1 := shr (a * c.t2.toInt) 11
  let d := shr adcT.toNat 4 - c.t1.toNat
  let var2 := shr (shr (d * d) 12 * c.t3.toInt) 14
  let tFine := var1 + var2
  let temp := shr (tFine * 5 + 128) 8
  { a, var1, d, var2, tFine, temp }

/-- COMPT (R104). -/
def execCompt (s : State) : Host.Outcome State Fault Refusal :=
  .next <|
    if !admitsCompt s then raise .sequenceError s
    else
      let r := tempCalc s.cal s.raw.adcT
      complete (writeTemperature r.tFine r.temp s)

/-! ### COMPP -/

/-- The intermediates of R106 up to the denominator term `c2`. -/
structure PressDen where
  v : Int
  b1 : Int
  b2 : Int
  b3 : Int
  c1 : Int
  c2 : Int
  deriving DecidableEq, Repr

/-- The expressions of R106 up to `c2`. -/
def pressDen (c : Calibration) (tFine : Int) : PressDen :=
  let v := tFine - 128000
  let b1 := v * v * c.p6.toInt
  let b2 := b1 + shl (v * c.p5.toInt) 17
  let b3 := b2 + shl c.p4.toInt 35
  let c1 := shr (v * v * c.p3.toInt) 8 + shl (v * c.p2.toInt) 12
  let c2 := shr ((shl 1 47 + c1) * c.p1.toNat) 33
  { v, b1, b2, b3, c1, c2 }

/-- The intermediates of R106 after the guard, and the result. -/
structure PressQuot where
  p0 : Int
  num : Int
  p1 : Int
  x1 : Int
  x2 : Int
  press : Int
  deriving DecidableEq, Repr

/-- The expressions of R106 after the guard, reached only when `c2 ≠ 0`. -/
def pressQuot (m : DivRound) (c : Calibration) (adcP : BitVec 20) (b3 c2 : Int) : PressQuot :=
  let p0 : Int := 1048576 - adcP.toNat
  let num := (shl p0 31 - b3) * 3125
  let p1 := roundDiv m num c2
  let x1 := shr (c.p9.toInt * shr p1 13 * shr p1 13) 25
  let x2 := shr (c.p8.toInt * p1) 19
  let press := shr (p1 + x1 + x2) 8 + shl c.p7.toInt 4
  { p0, num, p1, x1, x2, press }

/-- PRESS: zero where the denominator term is zero (R107), else the expressions after the guard. The result is neither
cast nor clamped (R109). -/
def pressure (m : DivRound) (c : Calibration) (adcP : BitVec 20) (tFine : Int) : Int :=
  let e := pressDen c tFine
  if e.c2 = 0 then 0 else (pressQuot m c adcP e.b3 e.c2).press

/-- COMPP (R106). -/
def execCompp (s : State) : Host.Outcome State Fault Refusal :=
  .next <|
    if !admitsTFine s then raise .sequenceError s
    else complete (writePressure (pressure s.config.divRound s.cal s.raw.adcP s.tFine) s)

/-! ### COMPH -/

/-- The clamp: `y` limited to 0 to 419430400, lower bound first (R111). -/
def clampHumidity (y : Int) : Int :=
  if y < 0 then 0 else if 419430400 < y then 419430400 else y

/-- The intermediates and the result of R110. -/
structure HumCalc where
  h : Int
  A : Int
  g1 : Int
  g2 : Int
  g3 : Int
  B : Int
  x : Int
  y : Int
  z : Int
  hum : Int
  deriving DecidableEq, Repr

/-- The expressions of R110. -/
def humCalc (c : Calibration) (adcH : BitVec 16) (tFine : Int) : HumCalc :=
  let h := tFine - 76800
  let A := shr (shl adcH.toNat 14 - shl c.h4.toInt 20 - c.h5.toInt * h + 16384) 15
  let g1 := shr (h * c.h6.toInt) 10
  let g2 := shr (h * c.h3.toNat) 11 + 32768
  let g3 := shr (g1 * g2) 10 + 2097152
  let B := shr (g3 * c.h2.toInt + 8192) 14
  let x := A * B
  let y := x - shr (shr (shr x 15 * shr x 15) 7 * c.h1.toNat) 4
  let z := clampHumidity y
  let hum := shr z 12
  { h, A, g1, g2, g3, B, x, y, z, hum }

/-- COMPH (R110). -/
def execComph (s : State) : Host.Outcome State Fault Refusal :=
  .next <|
    if !admitsTFine s then raise .sequenceError s
    else complete (writeHumidity (humCalc s.cal s.raw.adcH s.tFine).hum s)

end Sys2Proof.Machine
end

