-- ==== Sys2Proof/Machine/Init.lean ====
section
/-! DEFINITION. INIT, the calibration loader (`40_init_calibration.md` section 2). -/

namespace Sys2Proof.Machine

/-- INIT's last transaction, `MemWrite(CTRL_MEAS, 1, [0x27])`: oversampling x1 in both fields and normal mode, whatever
the operand is (R83, D15); then the commit (R85). -/
def initControl (osr : Nat) (a : ByteVec 26) (b : ByteVec 7) (s : State) : State :=
  match memWrite s.config.ctrlMeas [ctrlMeasByte 1 modeNormal] s with
  | (false, s') => raise .busError s'
  | (true, s') => complete (commitCalibration osr a b s')

/-- INIT's second transaction, `MemRead(CAL_B_BASE, 7)`, made only if the first succeeded (R83). -/
def initBlockB (osr : Nat) (a : ByteVec 26) (s : State) : State :=
  match memRead s.config.calBBase 7 s with
  | (none, s') => raise .busError s'
  | (some b, s') => initControl osr a b s'

/-- INIT's first transaction, `MemRead(CAL_A_BASE, 26)` (R83). -/
def initBlockA (osr : Nat) (s : State) : State :=
  match memRead s.config.calABase 26 s with
  | (none, s') => raise .busError s'
  | (some a, s') => initBlockB osr a s'

/-- INIT `osr` (R80): phase first, then the operand, then the bus (R81). -/
def execInit (osr : Nat) (s : State) : Host.Outcome State Fault Refusal :=
  .next <|
    if !admitsInit s then raise .sequenceError s
    else if !legalMode osr then raise .configurationError s
    else initBlockA osr s

end Sys2Proof.Machine
end

