-- ==== Sys2Proof/Machine/Sample.lean ====
section
/-! DEFINITION. SAMPLE, the raw sample reader (`41_sample.md` section 3). -/

namespace Sys2Proof.Machine

/-- SAMPLE's third transaction, the burst read `MemRead(DATA_BASE, 8)`, and the commit (R92, R96). -/
def sampleBurst (s : State) : State :=
  match memRead s.config.dataBase 8 s with
  | (none, s') => sampleBusError s'
  | (some r, s') => complete (commitRaw r s')

/-- SAMPLE's second transaction, the main control write in forced mode, and after it the settle wait (R92, R94). -/
def sampleTrigger (s : State) : State :=
  match memWrite s.config.ctrlMeas [ctrlMeasByte s.osr modeForced] s with
  | (false, s') => sampleBusError s'
  | (true, s') => sampleBurst (wait (tSettle s'.osr) s')

/-- SAMPLE's first transaction, the humidity control write (R92). -/
def sampleHumidity (s : State) : State :=
  match memWrite s.config.ctrlHum [ctrlHumByte s.osr] s with
  | (false, s') => sampleBusError s'
  | (true, s') => sampleTrigger s'

/-- SAMPLE (R90): refused in Uninitialized (R91); else TF_VALID is cleared before any bus transaction (R99). -/
def execSample (s : State) : Host.Outcome State Fault Refusal :=
  .next <|
    if !admitsSample s then raise .sequenceError s
    else sampleHumidity (clearTfValid s)

end Sys2Proof.Machine
end

