-- ==== Sys2Proof/Machine/Step.lean ====
section
/-! DEFINITION. One step: the host's next input is taken and carried out to completion (R11, R60). -/

namespace Sys2Proof.Machine

/-- One step. With nothing presented the block waits and nothing changes (R149, R152, log 6). A reset starts a new sensor
instance (R150). A command word is decoded before anything else; an illegal one raises IllegalCommand (R134); a legal one
is executed to completion (R60). -/
def step (s : State) : Host.Outcome State Fault Refusal :=
  match s.inputs with
  | [] => .next s
  | .reset :: _ => .next (resetBlock (takeInput s))
  | .command w :: _ =>
    match decode w with
    | .error _ => .next (raise .illegalCommand (takeInput s))
    | .ok i => exec i (takeInput s)

/-- The state in which the host presents the table word `w` as its very next command (log 7). -/
def State.withFetchWord (s : State) (nbits w : Nat) : State :=
  { s with inputs := .command (BitVec.ofNat 8 (w % 2 ^ nbits)) :: s.inputs }

end Sys2Proof.Machine
end

