-- ==== Sys2Proof/Machine/HostSide.lean ====
section
/-! DEFINITION. Host software outside the block (`44_derived_quantities.md`, R6): the pseudo-operations (R74, R75), the
derived quantities (R120 to R128) and one `getValues()` call (R129). No step of the block reads anything here. The number
type `α` is any ordered field, and `ln` and `pow` are taken as parameters, as R127 allows: with the reals, `Real.log` and
`Real.rpow` the functions are the spec's own (log 19). -/

namespace Sys2Proof.Machine

/-- Issue operations one after another; the first one that faults ends the expansion (R74, log 23). -/
def runUntilFault : List Instr → State → Host.Outcome State Fault Refusal
  | [], s => .next s
  | i :: rest, s =>
    match exec i s with
    | .next t => if t.status = .ok then runUntilFault rest t else .next t
    | .fault f => .fault f
    | .refused r => .refused r

/-- Why a host function yields no number (R124, R128) or no measurement (R129). -/
inductive HostError where
  /-- POLL ended with this fault. -/
  | block (f : Status)
  /-- STATUS code 5, never the block's: the dew point asked with `rH ≤ 0` (R124). -/
  | arithmeticDegenerate
  /-- An input outside the domain of a formula, the gaps of R128. -/
  | outsideDomain
  deriving DecidableEq, Repr

/-- DOC's MeasurementResult, its seven fields (R120). DESIGN CHOICE (log 25): a dew point or a normalized pressure that has
no number is an error in its own field and leaves the other fields; the spec leaves to the host how it shows it (U7). -/
structure MeasurementResult (α : Type) where
  tC : α
  tF : α
  rH : α
  dewPoint : Except HostError α
  pressureHPa : α
  normPressureHPa : Except HostError α
  altitudeM : α

variable {α : Type} [Field α] [LinearOrder α]

/-- `tC = TEMP / 100` (R121). -/
def celsius (temp : Int) : α := (temp : α) / 100

/-- `rH = HUM / 1024` (R121). -/
def relativeHumidity (hum : Int) : α := (hum : α) / 1024

/-- `pressure_hPa = PRESS / 25600` (R121). -/
def pressureHPa (press : Int) : α := (press : α) / 25600

/-- `tF = tC * 1.8 + 32` (R122). -/
def fahrenheit (tC : α) : α := tC * (18 / 10) + 32

/-- The Magnus dew point (R123), and no number where `rH ≤ 0` (R124) or a divisor is zero (R128). -/
def dewPoint (ln : α → α) (tC rH : α) : Except HostError α :=
  if rH ≤ 0 then .error .arithmeticDegenerate
  else if 24312 / 100 + tC = 0 then .error .outsideDomain
  else
    let k := ln (rH / 100) + 1762 / 100 * tC / (24312 / 100 + tC)
    if 1762 / 100 - k = 0 then .error .outsideDomain
    else .ok (24312 / 100 * k / (1762 / 100 - k))

/-- The locally-normalized sea-level pressure, a function of the altitude alone (R125), and no number above 44330 m
(R128). -/
def normPressureHPa (pow : α → α → α) (altitudeM : α) : Except HostError α :=
  if 44330 < altitudeM then .error .outsideDomain
  else .ok (101325 / 100 * pow (1 - altitudeM / 44330) (5255 / 1000))

/-- The measurement the host computes from TEMP, PRESS and HUM (R121 to R125); the altitude is host configuration
(R126). -/
def measurement (ln : α → α) (pow : α → α → α) (altitudeM : α) (s : State) : MeasurementResult α where
  tC := celsius s.temp
  tF := fahrenheit (celsius s.temp)
  rH := relativeHumidity s.hum
  dewPoint := dewPoint ln (celsius s.temp) (relativeHumidity s.hum)
  pressureHPa := pressureHPa s.press
  normPressureHPa := normPressureHPa pow altitudeM
  altitudeM := altitudeM

/-- One `getValues()` call (R129): issue POLL; a fault is reported and nothing is computed. -/
def getValues (ln : α → α) (pow : α → α → α) (altitudeM : α) (s : State) :
    Host.Outcome (State × Except HostError (MeasurementResult α)) Fault Refusal :=
  match runUntilFault Instr.pseudoPoll s with
  | .next t =>
    if t.status = .ok then .next (t, .ok (measurement ln pow altitudeM t))
    else .next (t, .error (.block t.status))
  | .fault f => .fault f
  | .refused r => .refused r

end Sys2Proof.Machine
end

