-- ==== Sys2Proof/Safety.lean ====
section
/-! DEFINITION. The terms claims use: the invariants of the lifecycle (R24, R28, R29, R33), of T_FINE (R29, R34) and of
the ranges (R23, R25), the states a run reaches (R167), and a run without a fault (R140). -/

namespace Sys2Proof.Machine

/-- What PHASE and TF_VALID promise (R24, R28, R29, R133): nothing holds a value in Uninitialized; calibration and a
legal mode are held from INIT on; a raw sample is held in Sampling; TF_VALID is 1 only in Sampling, with T_FINE
written. -/
abbrev Lifecycle (s : State) : Prop :=
  (s.phase = .uninitialized → s.written = Written.nothing) ∧
  (s.phase ≠ .uninitialized → s.written.calibration = true ∧ 1 ≤ s.osr.toNat ∧ s.osr.toNat ≤ 5) ∧
  (s.phase = .sampling → s.written.raw = true) ∧
  (s.tfValid = true → s.phase = .sampling ∧ s.written.tFine = true)

/-- `TF_VALID` is 1 only while `T_FINE` is what COMPT computes from the raw sample now held (R29, R34). -/
abbrev FreshTFine (s : State) : Prop :=
  s.tfValid = true → s.tFine = (tempCalc s.cal s.raw.adcT).tFine

/-- The ranges of T_FINE, TEMP and HUM (R23, R25). -/
abbrev InRange (s : State) : Prop :=
  (-4194224 ≤ s.tFine ∧ s.tFine ≤ 4194144) ∧
  (-81918 ≤ s.temp ∧ s.temp ≤ 81917) ∧
  (0 ≤ s.hum ∧ s.hum ≤ 102400)

/-- A state in which a run begins: reset, any parameters (R9), any commands and any sensor answers to come (R167). -/
abbrev Started (s : State) : Prop :=
  s = { State.reset with config := s.config, inputs := s.inputs, answers := s.answers, busCount := s.busCount }

/-- The states that runs reach. -/
inductive Reachable : State → Prop where
  | start {s : State} (h : Started s) : Reachable s
  | step {s t : State} (hs : Reachable s) (h : Machine.step s = .next t) : Reachable t

/-- The STATUS values after each of `k` steps: STATUS is not sticky, so a claim that no fault occurred collects them
all (R140, R164). -/
def statusLog : Nat → State → List Status
  | 0, _ => []
  | k + 1, s =>
    match Machine.step s with
    | .next t => t.status :: statusLog k t
    | .fault _ => []
    | .refused _ => []

/-- No operation of the first `k` steps faulted (R140). -/
abbrev NoFaults (k : Nat) (s : State) : Prop := ∀ f ∈ statusLog k s, f = .ok

end Sys2Proof.Machine
end

