-- ==== Sys2Proof/Certificates/Slice0/Obligations.lean ====
section
/-! DEFINITION. The statements for the provers. The formulas of the rules are written out here with the library's own
operations (`Int.fdiv` by a power of two for `>>`, a product with a power of two for `<<`), not with the model's, so that a
slip in the model would make a statement false. Rules marked `[decision: ...]` in the spec are the spec's own decisions,
rules marked `[derived: ...]` its own inferences. -/

namespace Sys2Proof.Claims

open Sys2Proof.Machine

/-- The admission table of R133, cell by cell: the columns are PHASE and, in Sampling, TF_VALID. -/
def admissionTable : Instr → Phase → Bool → Bool
  | .init _, .uninitialized, _ => true
  | .init _, .calibrated, _ => false
  | .init _, .sampling, _ => false
  | .sample, .uninitialized, _ => false
  | .sample, .calibrated, _ => true
  | .sample, .sampling, _ => true
  | .compt, .uninitialized, _ => false
  | .compt, .calibrated, _ => false
  | .compt, .sampling, _ => true
  | .compp, .uninitialized, _ => false
  | .compp, .calibrated, _ => false
  | .compp, .sampling, tfValid => tfValid
  | .comph, .uninitialized, _ => false
  | .comph, .calibrated, _ => false
  | .comph, .sampling, tfValid => tfValid

/-- INIT's first transaction (R83). -/
def readBlockA (s : State) (ok : Bool) : BusEvent := .read s.config.devAddr s.config.calABase 26 ok

/-- INIT's second transaction (R83). -/
def readBlockB (s : State) (ok : Bool) : BusEvent := .read s.config.devAddr s.config.calBBase 7 ok

/-- INIT's third transaction: the byte is 0x27 (R83). -/
def writeInitControl (s : State) (ok : Bool) : BusEvent := .write s.config.devAddr s.config.ctrlMeas [0x27] ok

/-- SAMPLE's first transaction: the byte is OSR itself (R68, R92). -/
def writeHumidityControl (s : State) (ok : Bool) : BusEvent :=
  .write s.config.devAddr s.config.ctrlHum [BitVec.ofNat 8 s.osr.toNat] ok

/-- SAMPLE's second transaction: the byte is `(OSR << 5) | (OSR << 2) | 0b01` (R69, R71, R92). -/
def writeForcedControl (s : State) (ok : Bool) : BusEvent :=
  .write s.config.devAddr s.config.ctrlMeas [BitVec.ofNat 8 (32 * s.osr.toNat + 4 * s.osr.toNat + 1)] ok

/-- SAMPLE's settle wait (R93). -/
def settleWait (s : State) : BusEvent := .wait (2400 + 6900 * 2 ^ s.osr.toNat)

/-- SAMPLE's third transaction (R92). -/
def readBurst (s : State) (ok : Bool) : BusEvent := .read s.config.devAddr s.config.dataBase 8 ok

/-- Whether an admitted operation meets a failing transaction among its own: INIT and SAMPLE make three each, the others
none (R52). -/
def meetsBusFailure (s : State) : Instr → Bool
  | .init _ => !(busOk s 0 && busOk s 1 && busOk s 2)
  | .sample => !(busOk s 0 && busOk s 1 && busOk s 2)
  | .compt => false
  | .compp => false
  | .comph => false

/-- The accesses R52 allows an operation, and SAMPLE's wait. -/
def allowedAccess (s : State) : Instr → BusEvent → Prop
  | .init _, e => ∃ ok, e = readBlockA s ok ∨ e = readBlockB s ok ∨ e = writeInitControl s ok
  | .sample, e =>
    e = settleWait s ∨ ∃ ok, e = writeHumidityControl s ok ∨ e = writeForcedControl s ok ∨ e = readBurst s ok
  | .compt, _ => False
  | .compp, _ => False
  | .comph, _ => False

/-- PHASE after an operation that ended with this STATUS: the transition table of R28. -/
def phaseAfter : Instr → Phase → Status → Phase
  | .init _, .uninitialized, .ok => .calibrated
  | .sample, .calibrated, .ok => .sampling
  | .sample, .sampling, .ok => .sampling
  | .sample, .calibrated, .busError => .calibrated
  | .sample, .sampling, .busError => .calibrated
  | .comph, .sampling, .ok => .calibrated
  | _, p, _ => p

end Sys2Proof.Claims

open Sys2Proof Sys2Proof.Machine Sys2Proof.Claims

/-! ### The command word and the step -/

/-- A command word that decodes is executed: the step is `exec` of the decoded instruction, at the state in which the host
has that input no longer pending. That the host's commands are a list of pending inputs is the model's choice (log 6). -/
def Obligations.CommandStepRunsDecodedInstr : Prop :=
  ∀ (s : State) (w : Byte) (rest : List HostInput) (i : Instr),
    s.inputs = .command w :: rest → decode w = .ok i → step s = exec i { s with inputs := rest }

/-- R63: which of the 256 words are illegal, and that an illegal one raises IllegalCommand and changes STATUS only. -/
def Obligations.IllegalWordsWriteStatusOnly : Prop :=
  ∀ (w : Byte),
    ((w.toNat / 16 = 0 ∨ 6 ≤ w.toNat / 16 ∨ w.toNat / 8 % 2 = 1 ∨ w.toNat % 8 ≠ 0 ∧ w.toNat / 16 ≠ 1) →
      ∀ (s : State) (rest : List HostInput), s.inputs = .command w :: rest →
        step s = .next { s with inputs := rest, status := .illegalCommand }) ∧
    (¬(w.toNat / 16 = 0 ∨ 6 ≤ w.toNat / 16 ∨ w.toNat / 8 % 2 = 1 ∨ w.toNat % 8 ≠ 0 ∧ w.toNat / 16 ≠ 1) →
      ∃ i, decode w = .ok i)

/-- One command word of each operation, written out bit by bit from R61, decodes to the operation it stands for. -/
def Obligations.WrittenOutWordsDecode : Prop :=
  decode 0b00010001 = .ok (.init 1) ∧ decode 0b00010110 = .ok (.init 6) ∧ decode 0b00100000 = .ok .sample ∧
  decode 0b00110000 = .ok .compt ∧ decode 0b01000000 = .ok .compp ∧ decode 0b01010000 = .ok .comph

/-- Decode and encode agree both ways: every well-formed command's word decodes to it, and a word that decodes is the word
of the well-formed command it decodes to. -/
def Obligations.DecodeAndEncodeAgree : Prop :=
  (∀ i : Instr, i.wf = true → decode (encode i) = .ok i) ∧
  (∀ (w : Byte) (i : Instr), decode w = .ok i → i.wf = true ∧ encode i = w)

/-- R62: the operand is the low three bits, neither scaled nor shifted, and all eight values are INIT. -/
def Obligations.AllEightOperandsDecodeAsInit : Prop :=
  ∀ w : Byte, w.toNat / 8 = 2 → decode w = .ok (.init (w.toNat % 8))

/-! ### The data encodings -/

/-- R64 and R87: every field of block A, with its signedness, and byte 24 ignored. -/
def Obligations.CalibrationBlockALayout : Prop :=
  ∀ (a : ByteVec 26) (b : ByteVec 7),
    let u16 : Byte → Byte → Int := fun lo hi => lo.toNat + 256 * hi.toNat
    let s16 : Byte → Byte → Int := fun lo hi => if u16 lo hi < 32768 then u16 lo hi else u16 lo hi - 65536
    let c := unpackCal a b
    ((c.t1.toNat : Int) = u16 (a 0) (a 1) ∧ c.t2.toInt = s16 (a 2) (a 3) ∧ c.t3.toInt = s16 (a 4) (a 5)) ∧
    ((c.p1.toNat : Int) = u16 (a 6) (a 7) ∧ c.p2.toInt = s16 (a 8) (a 9) ∧ c.p3.toInt = s16 (a 10) (a 11) ∧
      c.p4.toInt = s16 (a 12) (a 13) ∧ c.p5.toInt = s16 (a 14) (a 15) ∧ c.p6.toInt = s16 (a 16) (a 17) ∧
      c.p7.toInt = s16 (a 18) (a 19) ∧ c.p8.toInt = s16 (a 20) (a 21) ∧ c.p9.toInt = s16 (a 22) (a 23)) ∧
    c.h1.toNat = (a 25).toNat ∧
    ∀ x : Byte, unpackCal (Function.update a 24 x) b = c

/-- R88 and R89: every field of block B; H4 takes the low nibble of the shared byte, H5 the high one. -/
def Obligations.CalibrationBlockBLayout : Prop :=
  ∀ (a : ByteVec 26) (b : ByteVec 7),
    let u16 : Int := (b 0).toNat + 256 * (b 1).toNat
    let s8 : Byte → Int := fun x => if x.toNat < 128 then x.toNat else (x.toNat : Int) - 256
    let c := unpackCal a b
    c.h2.toInt = (if u16 < 32768 then u16 else u16 - 65536) ∧
    c.h3.toNat = (b 2).toNat ∧
    c.h4.toInt = 16 * s8 (b 3) + (b 4).toNat % 16 ∧
    c.h5.toInt = 16 * s8 (b 5) + (b 4).toNat / 16 ∧
    c.h6.toInt = s8 (b 6)

/-- R66: the packed values bit by bit, and the two right-hand forms equal. -/
def Obligations.PackedTwelveBitForms : Prop :=
  ∀ (msb shared : Byte),
    ((s12Lo msb shared).extractLsb' 4 8 = msb ∧ (s12Lo msb shared).extractLsb' 0 4 = shared.extractLsb' 0 4) ∧
    ((s12Hi msb shared).extractLsb' 4 8 = msb ∧ (s12Hi msb shared).extractLsb' 0 4 = shared.extractLsb' 4 4) ∧
    (BitVec.ofNat 12 (16 * msb.toNat + shared.toNat % 16)).toInt = 16 * msb.toInt + shared.toNat % 16 ∧
    (BitVec.ofNat 12 (16 * msb.toNat + shared.toNat / 16)).toInt = 16 * msb.toInt + shared.toNat / 16 ∧
    (s12Lo msb shared).toInt = 16 * msb.toInt + shared.toNat % 16 ∧
    (s12Hi msb shared).toInt = 16 * msb.toInt + shared.toNat / 16

/-- R95: the three counts of the burst; the low nibbles of bytes 2 and 5 are dropped. -/
def Obligations.RawBurstLayout : Prop :=
  ∀ r : ByteVec 8,
    (unpackRaw r).adcP.toNat = (65536 * (r 0).toNat + 256 * (r 1).toNat + (r 2).toNat) / 16 ∧
    (unpackRaw r).adcT.toNat = (65536 * (r 3).toNat + 256 * (r 4).toNat + (r 5).toNat) / 16 ∧
    (unpackRaw r).adcH.toNat = 256 * (r 6).toNat + (r 7).toNat

/-- R68 and R69: the fields of the two control bytes. -/
def Obligations.ControlByteFields : Prop :=
  ∀ (osrs : BitVec 3) (sel : BitVec 2),
    (ctrlMeasByte osrs sel).extractLsb' 5 3 = osrs ∧ (ctrlMeasByte osrs sel).extractLsb' 2 3 = osrs ∧
    (ctrlMeasByte osrs sel).extractLsb' 0 2 = sel ∧
    (ctrlHumByte osrs).extractLsb' 0 3 = osrs ∧ (ctrlHumByte osrs).extractLsb' 3 5 = 0

/-! ### INIT -/

/-- R85: with a legal mode, in Uninitialized, and all three transactions completing, INIT answers exactly the state in
which the 18 trims, OSR and PHASE are written together and STATUS is OK; every other register is unchanged. -/
def Obligations.InitCommitsCalibration : Prop :=
  ∀ (s : State) (osr : Nat), s.phase = .uninitialized → 1 ≤ osr → osr ≤ 5 →
    busOk s 0 = true → busOk s 1 = true → busOk s 2 = true →
    exec (.init osr) s = .next { s with
      cal := unpackCal (fun i : Fin 26 => busByte s 0 i) (fun i : Fin 7 => busByte s 1 i)
      osr := BitVec.ofNat 3 osr
      phase := .calibrated
      status := .ok
      written := { s.written with calibration := true }
      answers := s.answers.drop 3
      busCount := s.busCount + 3
      trace := s.trace ++ [readBlockA s true, readBlockB s true, writeInitControl s true] }

/-- R83: INIT's transactions are exactly three, in order, each made only if the one before it succeeded, and the byte
written is 0x27 whatever the operand. -/
def Obligations.InitBusTransactionsInOrder : Prop :=
  ∀ (s : State) (osr : Nat), s.phase = .uninitialized → 1 ≤ osr → osr ≤ 5 →
    ∃ t, exec (.init osr) s = .next t ∧
      t.trace = s.trace ++
        (if busOk s 0 = false then [readBlockA s false]
         else if busOk s 1 = false then [readBlockA s true, readBlockB s false]
         else [readBlockA s true, readBlockB s true, writeInitControl s (busOk s 2)])

/-- R84: outside Uninitialized INIT raises SequenceError and changes STATUS only. -/
def Obligations.SecondInitRefused : Prop :=
  ∀ (s : State) (osr : Nat), s.phase ≠ .uninitialized →
    exec (.init osr) s = .next { s with status := .sequenceError }

/-- R82: the modes 0, 6 and 7 raise ConfigurationError, without a bus transaction and with no register but STATUS
changed. -/
def Obligations.InitIllegalModeRefused : Prop :=
  ∀ (s : State) (osr : Nat), s.phase = .uninitialized → (osr = 0 ∨ osr = 6 ∨ osr = 7) →
    exec (.init osr) s = .next { s with status := .configurationError }

/-- R86: at the first failing transaction INIT stops, writes no trim and no OSR, stays Uninitialized, and STATUS is
BusError. -/
def Obligations.InitBusErrorLeavesRegisters : Prop :=
  ∀ (s : State) (osr : Nat), s.phase = .uninitialized → 1 ≤ osr → osr ≤ 5 →
    (busOk s 0 = false →
      exec (.init osr) s = .next { s with
        status := .busError
        answers := s.answers.drop 1
        busCount := s.busCount + 1
        trace := s.trace ++ [readBlockA s false] }) ∧
    (busOk s 0 = true → busOk s 1 = false →
      exec (.init osr) s = .next { s with
        status := .busError
        answers := s.answers.drop 2
        busCount := s.busCount + 2
        trace := s.trace ++ [readBlockA s true, readBlockB s false] }) ∧
    (busOk s 0 = true → busOk s 1 = true → busOk s 2 = false →
      exec (.init osr) s = .next { s with
        status := .busError
        answers := s.answers.drop 3
        busCount := s.busCount + 3
        trace := s.trace ++ [readBlockA s true, readBlockB s true, writeInitControl s false] })

/-! ### SAMPLE -/

/-- R92 and R96: admitted and with all three transactions completing, SAMPLE answers exactly the state with the three
counts, PHASE = Sampling, TF_VALID = 0 and STATUS = OK; T_FINE, the results and the calibration are unchanged. -/
def Obligations.SampleCommitsRawSample : Prop :=
  ∀ s : State, s.phase ≠ .uninitialized → busOk s 0 = true → busOk s 1 = true → busOk s 2 = true →
    exec .sample s = .next { s with
      raw := unpackRaw (fun i : Fin 8 => busByte s 2 i)
      phase := .sampling
      tfValid := false
      status := .ok
      written := { s.written with raw := true }
      answers := s.answers.drop 3
      busCount := s.busCount + 3
      trace := s.trace ++ [writeHumidityControl s true, writeForcedControl s true, settleWait s, readBurst s true] }

/-- R92: SAMPLE's transactions are exactly three, in order, each made only if the one before it succeeded, with the settle
wait between the second and the third, and the bytes written are those of OSR. -/
def Obligations.SampleBusTransactionsInOrder : Prop :=
  ∀ s : State, s.phase ≠ .uninitialized →
    ∃ t, exec .sample s = .next t ∧
      t.trace = s.trace ++
        (if busOk s 0 = false then [writeHumidityControl s false]
         else if busOk s 1 = false then [writeHumidityControl s true, writeForcedControl s false]
         else [writeHumidityControl s true, writeForcedControl s true, settleWait s, readBurst s (busOk s 2)])

/-- R91: in Uninitialized SAMPLE raises SequenceError and changes STATUS only. In Calibrated and in Sampling it is admitted:
the T_FINE of an abandoned cycle is invalidated, and where the bus answers, the old raw sample is overwritten. -/
def Obligations.SampleAdmission : Prop :=
  ∀ s : State,
    (s.phase = .uninitialized → exec .sample s = .next { s with status := .sequenceError }) ∧
    (s.phase = .calibrated ∨ s.phase = .sampling →
      ∃ t, exec .sample s = .next t ∧ t.status ≠ .sequenceError ∧ t.tfValid = false ∧
        (busOk s 0 = true → busOk s 1 = true → busOk s 2 = true →
          t.phase = .sampling ∧ t.raw = unpackRaw (fun i : Fin 8 => busByte s 2 i)))

/-- R97 and R99: at the first failing transaction SAMPLE stops, with no later transaction and no wait that has not begun;
the counts are not written, TF_VALID is 0, PHASE is Calibrated and STATUS is BusError. -/
def Obligations.SampleBusErrorClosesCycle : Prop :=
  ∀ s : State, s.phase ≠ .uninitialized →
    (busOk s 0 = false →
      exec .sample s = .next { s with
        phase := .calibrated
        tfValid := false
        status := .busError
        answers := s.answers.drop 1
        busCount := s.busCount + 1
        trace := s.trace ++ [writeHumidityControl s false] }) ∧
    (busOk s 0 = true → busOk s 1 = false →
      exec .sample s = .next { s with
        phase := .calibrated
        tfValid := false
        status := .busError
        answers := s.answers.drop 2
        busCount := s.busCount + 2
        trace := s.trace ++ [writeHumidityControl s true, writeForcedControl s false] }) ∧
    (busOk s 0 = true → busOk s 1 = true → busOk s 2 = false →
      exec .sample s = .next { s with
        phase := .calibrated
        tfValid := false
        status := .busError
        answers := s.answers.drop 3
        busCount := s.busCount + 3
        trace := s.trace ++ [writeHumidityControl s true, writeForcedControl s true, settleWait s, readBurst s false] })

/-- R93: the settle time as the sum of its three channels, and its closed form. -/
def Obligations.SettleTimeFormula : Prop :=
  ∀ m : BitVec 3,
    tSettle m = 1250 + 2300 * 2 ^ m.toNat + (2300 * 2 ^ m.toNat + 575) + (2300 * 2 ^ m.toNat + 575) ∧
    tSettle m = 2400 + 6900 * 2 ^ m.toNat

/-- R156: whatever a step does, a burst read it makes comes directly after the wait of at least `T_SETTLE(OSR)`, and that
directly after the completed main-control write that starts the measurement. -/
def Obligations.BurstReadOnlyAfterSettleWait : Prop :=
  ∀ (s t : State) (added : List BusEvent) (k : Nat) (ok : Bool),
    step s = .next t → t.trace = s.trace ++ added → added[k]? = some (readBurst s ok) →
    2 ≤ k ∧ added[k - 1]? = some (settleWait s) ∧ added[k - 2]? = some (writeForcedControl s true)

/-! ### COMPT, COMPP, COMPH -/

/-- R104: COMPT in Sampling answers exactly the state with T_FINE, TEMP, TF_VALID = 1 and STATUS = OK; in any other PHASE
it raises SequenceError and changes STATUS only. -/
def Obligations.ComptComputesTemperature : Prop :=
  ∀ s : State,
    (s.phase = .sampling →
      let T1 : Int := s.cal.t1.toNat
      let T2 := s.cal.t2.toInt
      let T3 := s.cal.t3.toInt
      let ADC_T : Int := s.raw.adcT.toNat
      let a := Int.fdiv ADC_T (2 ^ 3) - T1 * 2 ^ 1
      let var1 := Int.fdiv (a * T2) (2 ^ 11)
      let d := Int.fdiv ADC_T (2 ^ 4) - T1
      let var2 := Int.fdiv (Int.fdiv (d * d) (2 ^ 12) * T3) (2 ^ 14)
      exec .compt s = .next { s with
        tFine := var1 + var2
        temp := Int.fdiv ((var1 + var2) * 5 + 128) (2 ^ 8)
        tfValid := true
        status := .ok
        written := { s.written with tFine := true } }) ∧
    (s.phase ≠ .sampling → exec .compt s = .next { s with status := .sequenceError })

/-- R106: COMPP admitted answers exactly the state with PRESS and STATUS = OK; refused, it changes STATUS only. The
division rounds by the parameter `DIV_ROUND` (R103): truncation is the rule, the floor its alternative (log 5). -/
def Obligations.ComppComputesPressure : Prop :=
  ∀ s : State,
    (s.phase = .sampling → s.tfValid = true →
      let P1 : Int := s.cal.p1.toNat
      let P2 := s.cal.p2.toInt
      let P3 := s.cal.p3.toInt
      let P4 := s.cal.p4.toInt
      let P5 := s.cal.p5.toInt
      let P6 := s.cal.p6.toInt
      let P7 := s.cal.p7.toInt
      let P8 := s.cal.p8.toInt
      let P9 := s.cal.p9.toInt
      let ADC_P : Int := s.raw.adcP.toNat
      let v := s.tFine - 128000
      let b1 := v * v * P6
      let b2 := b1 + v * P5 * 2 ^ 17
      let b3 := b2 + P4 * 2 ^ 35
      let c1 := Int.fdiv (v * v * P3) (2 ^ 8) + v * P2 * 2 ^ 12
      let c2 := Int.fdiv ((2 ^ 47 + c1) * P1) (2 ^ 33)
      let p0 := 1048576 - ADC_P
      let num := (p0 * 2 ^ 31 - b3) * 3125
      let p1 := if s.config.divRound = .trunc then Int.tdiv num c2 else Int.fdiv num c2
      let x1 := Int.fdiv (P9 * Int.fdiv p1 (2 ^ 13) * Int.fdiv p1 (2 ^ 13)) (2 ^ 25)
      let x2 := Int.fdiv (P8 * p1) (2 ^ 19)
      exec .compp s = .next { s with
        press := if c2 = 0 then 0 else Int.fdiv (p1 + x1 + x2) (2 ^ 8) + P7 * 2 ^ 4
        status := .ok
        written := { s.written with press := true } }) ∧
    (¬(s.phase = .sampling ∧ s.tfValid = true) → exec .compp s = .next { s with status := .sequenceError })

/-- R107: with a zero denominator term COMPP writes PRESS = 0 and completes with OK; and the term is zero exactly when the
product before the shift is 0 to 2^33 - 1. -/
def Obligations.ComppZeroDenominatorGuard : Prop :=
  ∀ s : State, s.phase = .sampling → s.tfValid = true →
    let v := s.tFine - 128000
    let c1 := Int.fdiv (v * v * s.cal.p3.toInt) (2 ^ 8) + v * s.cal.p2.toInt * 2 ^ 12
    let product : Int := ((2 : Int) ^ 47 + c1) * (s.cal.p1.toNat : Int)
    (Int.fdiv product (2 ^ 33) = 0 ↔ 0 ≤ product ∧ product < 2 ^ 33) ∧
    (Int.fdiv product (2 ^ 33) = 0 →
      exec .compp s = .next { s with press := 0, status := .ok, written := { s.written with press := true } })

/-- R103: the one division rounds toward zero; and the alternative, the floor, differs from it exactly when the operands
have opposite signs and the divisor does not divide. -/
def Obligations.PressureDivisionRounding : Prop :=
  ∀ a b : Int, b ≠ 0 →
    roundDiv .trunc a b = a.sign * b.sign * ((a.natAbs / b.natAbs : Nat) : Int) ∧
    (roundDiv .floor a b ≠ roundDiv .trunc a b ↔ a * b < 0 ∧ ¬ b ∣ a)

/-- R110: COMPH admitted answers exactly the state with HUM, TF_VALID = 0, PHASE = Calibrated and STATUS = OK; refused, it
changes STATUS only. -/
def Obligations.ComphComputesHumidity : Prop :=
  ∀ s : State,
    (s.phase = .sampling → s.tfValid = true →
      let H1 : Int := s.cal.h1.toNat
      let H2 := s.cal.h2.toInt
      let H3 : Int := s.cal.h3.toNat
      let H4 := s.cal.h4.toInt
      let H5 := s.cal.h5.toInt
      let H6 := s.cal.h6.toInt
      let ADC_H : Int := s.raw.adcH.toNat
      let h := s.tFine - 76800
      let A := Int.fdiv (ADC_H * 2 ^ 14 - H4 * 2 ^ 20 - H5 * h + 16384) (2 ^ 15)
      let g1 := Int.fdiv (h * H6) (2 ^ 10)
      let g2 := Int.fdiv (h * H3) (2 ^ 11) + 32768
      let g3 := Int.fdiv (g1 * g2) (2 ^ 10) + 2097152
      let B := Int.fdiv (g3 * H2 + 8192) (2 ^ 14)
      let x := A * B
      let y := x - Int.fdiv (Int.fdiv (Int.fdiv x (2 ^ 15) * Int.fdiv x (2 ^ 15)) (2 ^ 7) * H1) (2 ^ 4)
      exec .comph s = .next { s with
        hum := Int.fdiv (max 0 (min y 419430400)) (2 ^ 12)
        tfValid := false
        phase := .calibrated
        status := .ok
        written := { s.written with hum := true } }) ∧
    (¬(s.phase = .sampling ∧ s.tfValid = true) → exec .comph s = .next { s with status := .sequenceError })

/-- R111: the clamp limits `y` to 0 to 419430400, so every HUM that COMPH writes is 0 to 102400. -/
def Obligations.HumidityAlwaysClamped : Prop :=
  (∀ y : Int, (y < 0 → clampHumidity y = 0) ∧ (419430400 < y → clampHumidity y = 419430400) ∧
    (0 ≤ y → y ≤ 419430400 → clampHumidity y = y)) ∧
  (∀ s : State, s.phase = .sampling → s.tfValid = true →
    ∃ t, exec .comph s = .next t ∧ 0 ≤ t.hum ∧ t.hum ≤ 102400)

/-- R113: the three operations make no bus transaction and wait for nothing, and read no state other than what their rule
lists: two states that agree on those registers give the same results. (COMPP also reads the parameter `DIV_ROUND`, which
is no state: log 5.) -/
def Obligations.CompensationReadsOnlyItsRegisters : Prop :=
  (∀ (i : Instr) (s t : State), i = .compt ∨ i = .compp ∨ i = .comph → exec i s = .next t →
    t.trace = s.trace ∧ t.answers = s.answers ∧ t.busCount = s.busCount) ∧
  (∀ s s' t t' : State, s.phase = s'.phase → exec .compt s = .next t → exec .compt s' = .next t' →
    s.raw.adcT = s'.raw.adcT → s.cal.t1 = s'.cal.t1 → s.cal.t2 = s'.cal.t2 → s.cal.t3 = s'.cal.t3 →
    t.status = t'.status ∧ (t.status = .ok → t.tFine = t'.tFine ∧ t.temp = t'.temp)) ∧
  (∀ s s' t t' : State, s.phase = s'.phase → s.tfValid = s'.tfValid →
    exec .compp s = .next t → exec .compp s' = .next t' → s.config.divRound = s'.config.divRound →
    s.raw.adcP = s'.raw.adcP → s.tFine = s'.tFine → s.cal.p1 = s'.cal.p1 → s.cal.p2 = s'.cal.p2 →
    s.cal.p3 = s'.cal.p3 → s.cal.p4 = s'.cal.p4 → s.cal.p5 = s'.cal.p5 → s.cal.p6 = s'.cal.p6 →
    s.cal.p7 = s'.cal.p7 → s.cal.p8 = s'.cal.p8 → s.cal.p9 = s'.cal.p9 →
    t.status = t'.status ∧ (t.status = .ok → t.press = t'.press)) ∧
  (∀ s s' t t' : State, s.phase = s'.phase → s.tfValid = s'.tfValid →
    exec .comph s = .next t → exec .comph s' = .next t' →
    s.raw.adcH = s'.raw.adcH → s.tFine = s'.tFine → s.cal.h1 = s'.cal.h1 → s.cal.h2 = s'.cal.h2 →
    s.cal.h3 = s'.cal.h3 → s.cal.h4 = s'.cal.h4 → s.cal.h5 = s'.cal.h5 → s.cal.h6 = s'.cal.h6 →
    t.status = t'.status ∧ (t.status = .ok → t.hum = t'.hum))

/-! ### Widths: the spec's own inference of section 6 of `42_compensation.md` -/

/-- The table's rows for COMPT. -/
def Obligations.ComptIntermediateRanges : Prop :=
  ∀ (c : Calibration) (adcT : BitVec 20),
    let r := tempCalc c adcT
    (-131070 ≤ r.a ∧ r.a ≤ 131071) ∧ (-2097136 ≤ r.var1 ∧ r.var1 ≤ 2097120) ∧ (-65535 ≤ r.d ∧ r.d ≤ 65535) ∧
    (-2097088 ≤ r.var2 ∧ r.var2 ≤ 2097024) ∧ (-4194224 ≤ r.tFine ∧ r.tFine ≤ 4194144) ∧
    (-81918 ≤ r.temp ∧ r.temp ≤ 81917)

/-- The table's exact rows for COMPP up to the denominator term, for every T_FINE that COMPT can produce. -/
def Obligations.ComppDenominatorRanges : Prop :=
  ∀ (c : Calibration) (tFine : Int), -4194224 ≤ tFine → tFine ≤ 4194144 →
    let r := pressDen c tFine
    (-4322224 ≤ r.v ∧ r.v ≤ 4066144) ∧
    (-612159334192775168 ≤ r.b1 ∧ r.b1 ≤ 612140652572468992) ∧
    (-630722578396217344 ≤ r.b2 ∧ r.b2 ≤ 630704463298455296) ∧
    (-631848478303059968 ≤ r.b3 ∧ r.b3 ≤ 631830328845559552) ∧
    (-2971348780548096 ≤ r.c1 ∧ r.c1 ≤ 2971293509298279) ∧
    (-21595520787 ≤ r.c2 ∧ r.c2 ≤ 23742549986)

/-- The table's rows for COMPH, for every T_FINE that COMPT can produce. -/
def Obligations.ComphIntermediateRanges : Prop :=
  ∀ (c : Calibration) (adcH : BitVec 16) (tFine : Int), -4194224 ≤ tFine → tFine ≤ 4194144 →
    let r := humCalc c adcH tFine
    (-4271024 ≤ r.h ∧ r.h ≤ 4117344) ∧ (-332443 ≤ r.A ∧ r.A ≤ 365112) ∧
    (-499025 ≤ r.g2 ∧ r.g2 ≤ 545425) ∧ (-280047366 ≤ r.g3 ∧ r.g3 ≤ 286462784) ∧
    (-572925568 ≤ r.B ∧ r.B ≤ 572908084) ∧ (-209181999983616 ≤ r.x ∧ r.x ≤ 209175616365408) ∧
    (-5074308692883701742 ≤ r.y ∧ r.y ≤ 209175616365408)

/-! ### Faults, PHASE, TF_VALID, STATUS: rules of the whole machine -/

/-- R133: an operation raises SequenceError exactly in the cells of the table that are not "ok", and then changes nothing
but STATUS (R136). -/
def Obligations.AdmissionTableDecidesSequenceError : Prop :=
  ∀ (i : Instr) (s : State), ∃ t, exec i s = .next t ∧
    (t.status = .sequenceError ↔ admissionTable i s.phase s.tfValid = false) ∧
    (t.status = .sequenceError → t = { s with status := .sequenceError })

/-- R136: a SequenceError, a ConfigurationError or an IllegalCommand changes no state but STATUS (the command itself is no
longer pending). -/
def Obligations.RefusalsChangeStatusOnly : Prop :=
  ∀ (s t : State) (w : Byte) (rest : List HostInput), s.inputs = .command w :: rest → step s = .next t →
    t.status = .sequenceError ∨ t.status = .configurationError ∨ t.status = .illegalCommand →
    t = { s with inputs := rest, status := t.status }

/-- R139: STATUS after a command is the first of the causes that applies, in the order IllegalCommand, SequenceError,
ConfigurationError, BusError, and OK where none does, whatever STATUS was before. -/
def Obligations.StatusReportsFirstCause : Prop :=
  ∀ (s : State) (w : Byte) (rest : List HostInput), s.inputs = .command w :: rest →
    ∃ t, step s = .next t ∧ t.status =
      match decode w with
      | .error _ => .illegalCommand
      | .ok i =>
        if admissionTable i s.phase s.tfValid = false then .sequenceError
        else if i = .init 0 ∨ i = .init 6 ∨ i = .init 7 then .configurationError
        else if meetsBusFailure s i = true then .busError
        else .ok

/-- R140: no fault leaves the block stuck: from every state the next step answers a next state, and so does every
operation. -/
def Obligations.NoFaultStopsTheBlock : Prop :=
  (∀ s : State, ∃ t, step s = .next t) ∧ (∀ (i : Instr) (s : State), ∃ t, exec i s = .next t)

/-- R28: the code of each PHASE, and the transition table: an operation leaves PHASE as the table says for the phase it
found and the outcome it reports; an illegal command leaves it unchanged; a reset makes it Uninitialized. -/
def Obligations.PhaseTransitionTable : Prop :=
  (phaseCode .uninitialized = 0 ∧ phaseCode .calibrated = 1 ∧ phaseCode .sampling = 2 ∧ ∀ p, phaseCode p ≠ 3) ∧
  (∀ (i : Instr) (s t : State), exec i s = .next t → t.phase = phaseAfter i s.phase t.status) ∧
  (∀ (s t : State) (w : Byte) (r : IllegalWord) (rest : List HostInput), s.inputs = .command w :: rest →
    decode w = .error r → step s = .next t → t.phase = s.phase) ∧
  (∀ (s t : State) (rest : List HostInput), s.inputs = .reset :: rest → step s = .next t → t.phase = .uninitialized)

/-- The writers of TF_VALID: COMPT sets it, SAMPLE clears it once admitted (whatever the bus answers), COMPH clears it on
completion, and no other operation touches it. -/
def Obligations.TfValidWriters : Prop :=
  ∀ (i : Instr) (s t : State), exec i s = .next t →
    t.tfValid =
      if i = .compt ∧ s.phase = .sampling then true
      else if i = .sample ∧ s.phase ≠ .uninitialized then false
      else if i = .comph ∧ s.phase = .sampling then false
      else s.tfValid

/-- R32: the trims, and OSR with them, are written by one successful INIT in Uninitialized and by nothing else; only a
reset ends their validity. -/
def Obligations.CalibrationImmutableAfterInit : Prop :=
  ∀ s t : State, step s = .next t → (t.cal ≠ s.cal ∨ t.osr ≠ s.osr ∨ t.written.calibration ≠ s.written.calibration) →
    (∃ rest, s.inputs = .reset :: rest) ∨
    (∃ w rest osr, s.inputs = .command w :: rest ∧ decode w = .ok (.init osr) ∧ s.phase = .uninitialized ∧
      t.status = .ok ∧ t.phase = .calibrated)

/-- The frame of all five operations, the access table of `10_state.md`: what each may write, and that it leaves every
other register, the parameters, and what the host presents next unchanged. -/
def Obligations.FrameOfTheFiveOperations : Prop :=
  ∀ (i : Instr) (s t : State), exec i s = .next t →
    (t.config = s.config ∧ t.inputs = s.inputs) ∧
    ((∀ osr, i ≠ .init osr) →
      t.cal = s.cal ∧ t.osr = s.osr ∧ t.written.calibration = s.written.calibration) ∧
    (i ≠ .sample → t.raw = s.raw ∧ t.written.raw = s.written.raw) ∧
    (i ≠ .compt → t.tFine = s.tFine ∧ t.temp = s.temp ∧ t.written.tFine = s.written.tFine) ∧
    (i ≠ .compp → t.press = s.press ∧ t.written.press = s.written.press) ∧
    (i ≠ .comph → t.hum = s.hum ∧ t.written.hum = s.written.hum) ∧
    (i = .compt ∨ i = .compp → t.phase = s.phase) ∧
    (i = .compp ∨ (∃ osr, i = .init osr) → t.tfValid = s.tfValid)

/-- R52: the accesses to the sensor's register space are exactly the six of the table (and SAMPLE's wait), each by its own
operation; the trace is only ever extended. -/
def Obligations.OnlyTheSixAccesses : Prop :=
  ∀ (i : Instr) (s t : State), exec i s = .next t →
    ∃ added, t.trace = s.trace ++ added ∧ ∀ e ∈ added, allowedAccess s i e

/-- R27: the parameters are fixed: no step writes them. -/
def Obligations.ConfigurationNeverWritten : Prop :=
  ∀ s t : State, step s = .next t → t.config = s.config

/-- R150: a reset sets PHASE, STATUS and TF_VALID and leaves every other register without a value. It makes no bus
transaction, the spec's inference of R151: the trace, the answers to come and their counter stay, which are the model's own
records (logs 8 and 10); and the parameters, which the model holds in State (log 3), stay fixed. -/
def Obligations.ResetStartsNewInstance : Prop :=
  ∀ (s : State) (rest : List HostInput), s.inputs = .reset :: rest →
    ∃ t, step s = .next t ∧ t.phase = .uninitialized ∧ t.status = .ok ∧ t.tfValid = false ∧
      (∀ r : Reg, r ≠ .phase → r ≠ .status → r ≠ .tfValid → observe t r = none) ∧
      t.inputs = rest ∧ t.config = s.config ∧ t.trace = s.trace ∧ t.answers = s.answers ∧ t.busCount = s.busCount

/-- The table of reset values, `10_state.md` section 6: PHASE, STATUS and TF_VALID are observed as 0 and no other register
holds a value. -/
def Obligations.ResetValues : Prop :=
  observe State.reset .phase = some 0 ∧ observe State.reset .status = some 0 ∧ observe State.reset .tfValid = some 0 ∧
  ∀ r : Reg, r ≠ .phase → r ≠ .status → r ≠ .tfValid → observe State.reset r = none

/-- The spec's own inference of R24, through `exec`: no operation reads a register that holds no value. Two states of the
lifecycle that look the same to the host (so that they may differ only in what stands behind the registers that hold no
value, the zeros of log 1), with the same parameters, sensor and trace, are led by every operation to two such states. -/
def Obligations.UnwrittenRegistersNeverRead : Prop :=
  ∀ (i : Instr) (s s' t t' : State), Lifecycle s → Lifecycle s' →
    s.config = s'.config → s.inputs = s'.inputs → s.answers = s'.answers → s.busCount = s'.busCount →
    s.trace = s'.trace → (∀ r : Reg, observe s r = observe s' r) →
    exec i s = .next t → exec i s' = .next t' →
    (∀ r : Reg, observe t r = observe t' r) ∧ t.config = t'.config ∧ t.inputs = t'.inputs ∧ t.answers = t'.answers ∧
    t.busCount = t'.busCount ∧ t.trace = t'.trace

/-- R158: once a SAMPLE has started (even one that then fails), or COMPH has completed, neither COMPP nor COMPH can read the
old T_FINE: both raise SequenceError. -/
def Obligations.StaleTFineNeverRead : Prop :=
  ∀ s t : State,
    (s.phase ≠ .uninitialized ∧ exec .sample s = .next t) ∨
      (s.phase = .sampling ∧ s.tfValid = true ∧ exec .comph s = .next t) →
    exec .compp t = .next { t with status := .sequenceError } ∧
    exec .comph t = .next { t with status := .sequenceError }

/-! ### Invariants of every step -/

/-- Every step keeps the promises of PHASE and TF_VALID. -/
def Obligations.EveryStepKeepsLifecycle : Prop :=
  ∀ s t : State, Lifecycle s → step s = .next t → Lifecycle t

/-- Every step keeps the freshness of T_FINE: while TF_VALID is 1, T_FINE is what COMPT computes from the raw sample now
held. (The lifecycle rules out an INIT that would replace the trims under a set TF_VALID.) -/
def Obligations.EveryStepKeepsTFineFresh : Prop :=
  ∀ s t : State, Lifecycle s → FreshTFine s → step s = .next t → FreshTFine t

/-- Every step keeps T_FINE, TEMP and HUM in their ranges. The zeros that stand in them at reset are the model's choice
(log 1). -/
def Obligations.EveryStepKeepsRanges : Prop :=
  ∀ s t : State, InRange s → step s = .next t → InRange t

/-- The three invariants hold at reset. (The range holds by the zeros of log 1, the model's choice.) -/
def Obligations.InvariantsHoldAtReset : Prop :=
  Lifecycle State.reset ∧ FreshTFine State.reset ∧ InRange State.reset

/-- In every state a run reaches, whatever the parameters, the commands and the sensor's answers, all three hold. (The
range holds at the start, and until COMPT and COMPH first write, by the zeros of log 1, the model's choice.) -/
def Obligations.ReachableStatesMeetInvariants : Prop :=
  ∀ s : State, Reachable s → Lifecycle s ∧ FreshTFine s ∧ InRange s

/-! ### Runs -/

/-- R75: POLL is SAMPLE, COMPT, COMPP, COMPH; from Calibrated or Sampling, with the three transactions completing, it ends
in Calibrated with STATUS OK, and the three results are those of the sample it read: pressure and humidity use the T_FINE
of that very sample. -/
def Obligations.PollEndsCalibrated : Prop :=
  Instr.pseudoPoll = [.sample, .compt, .compp, .comph] ∧
  ∀ s : State, s.phase ≠ .uninitialized → busOk s 0 = true → busOk s 1 = true → busOk s 2 = true →
    ∃ t, runUntilFault Instr.pseudoPoll s = .next t ∧ t.phase = .calibrated ∧ t.status = .ok ∧ t.tfValid = false ∧
      t.raw = unpackRaw (fun i : Fin 8 => busByte s 2 i) ∧ t.cal = s.cal ∧
      t.tFine = (tempCalc t.cal t.raw.adcT).tFine ∧ t.temp = (tempCalc t.cal t.raw.adcT).temp ∧
      t.press = pressure s.config.divRound t.cal t.raw.adcP t.tFine ∧ t.hum = (humCalc t.cal t.raw.adcH t.tFine).hum

/-- R74: COMP is COMPT, COMPP, COMPH; from Sampling, whatever TF_VALID is, it ends in Calibrated with the three results of
the raw sample held; in any other PHASE its first operation faults, the expansion stops there, and STATUS only changes. The
last two clauses say what stopping is, where it can be told from going on: after an operation that faults nothing of the rest
is issued, and after one that does not the rest is. They speak of any list of operations; that POLL runs as COMP does is the
model's inference (log 23). -/
def Obligations.CompStopsAtFirstFault : Prop :=
  Instr.pseudoComp = [.compt, .compp, .comph] ∧
  ∀ s : State,
    (s.phase = .sampling →
      ∃ t, runUntilFault Instr.pseudoComp s = .next t ∧ t.phase = .calibrated ∧ t.status = .ok ∧
        t.raw = s.raw ∧ t.cal = s.cal ∧ t.trace = s.trace ∧
        t.tFine = (tempCalc s.cal s.raw.adcT).tFine ∧ t.temp = (tempCalc s.cal s.raw.adcT).temp ∧
        t.press = pressure s.config.divRound s.cal s.raw.adcP t.tFine ∧ t.hum = (humCalc s.cal s.raw.adcH t.tFine).hum) ∧
    (s.phase ≠ .sampling → runUntilFault Instr.pseudoComp s = .next { s with status := .sequenceError }) ∧
    ∀ (i : Instr) (rest : List Instr) (t : State), exec i s = .next t →
      (t.status ≠ .ok → runUntilFault (i :: rest) s = .next t) ∧
      (t.status = .ok → runUntilFault (i :: rest) s = runUntilFault rest t)

/-- The boot order of `70_reset_and_hazards.md` section 2 carried through: from reset, with any parameters, `INIT m` with a
legal mode and one poll, the six transactions completing, run without a fault. -/
def Obligations.BootAndPollRunWithoutFault : Prop :=
  ∀ (s : State) (m : Nat) (rest : List HostInput), Started s → 1 ≤ m → m ≤ 5 →
    s.inputs = [.command (encode (.init m)), .command 0x20, .command 0x30, .command 0x40, .command 0x50] ++ rest →
    (∀ k, k < 6 → busOk s k = true) →
    statusLog 5 s = [.ok, .ok, .ok, .ok, .ok]

/-! ### Host software outside the block -/

/-- R122, over the reals: Fahrenheit, with DOC's two examples. -/
def Obligations.FahrenheitScale : Prop :=
  (∀ tC : ℝ, fahrenheit tC = tC * 1.8 + 32) ∧ fahrenheit (0 : ℝ) = 32 ∧ fahrenheit (100 : ℝ) = 212

/-- R123, over the reals: the Magnus dew point, and that at 100 % relative humidity it is the temperature itself. At its
two gaps of R128, the spec's decision, it yields no number: a temperature of -243.12, and `k = 17.62`. -/
def Obligations.DewPointMagnus : Prop :=
  (∀ tC rH : ℝ, 0 < rH → 243.12 + tC ≠ 0 → Real.log (rH / 100) + 17.62 * tC / (243.12 + tC) ≠ 17.62 →
    dewPoint Real.log tC rH =
      .ok (243.12 * (Real.log (rH / 100) + 17.62 * tC / (243.12 + tC)) /
        (17.62 - (Real.log (rH / 100) + 17.62 * tC / (243.12 + tC))))) ∧
  (∀ tC : ℝ, 243.12 + tC ≠ 0 → dewPoint Real.log tC 100 = .ok tC) ∧
  (∀ rH : ℝ, 0 < rH → dewPoint Real.log (-243.12) rH = .error .outsideDomain) ∧
  (∀ tC rH : ℝ, 0 < rH → 243.12 + tC ≠ 0 → Real.log (rH / 100) + 17.62 * tC / (243.12 + tC) = 17.62 →
    dewPoint Real.log tC rH = .error .outsideDomain)

/-- R124: for `rH ≤ 0` the dew point yields no number, whatever the temperature; the block reaches the case with
HUM = 0. -/
def Obligations.DewPointDegenerate : Prop :=
  (∀ (ln : ℝ → ℝ) (tC rH : ℝ), rH ≤ 0 → dewPoint ln tC rH = .error .arithmeticDegenerate) ∧
  (∀ (ln : ℝ → ℝ) (tC : ℝ), dewPoint ln tC (relativeHumidity 0) = .error .arithmeticDegenerate)

/-- R125, over the reals: the normalized pressure is the formula of the altitude; at altitude 0 it is 1013.25. Above
44330 m it yields no number, the spec's decision on a gap of its source. -/
def Obligations.NormalizedPressure : Prop :=
  (∀ alt : ℝ, alt ≤ 44330 →
    normPressureHPa (fun x y : ℝ => x ^ y) alt = .ok (1013.25 * (1 - alt / 44330) ^ (5.255 : ℝ))) ∧
  normPressureHPa (fun x y : ℝ => x ^ y) 0 = .ok 1013.25 ∧
  normPressureHPa (fun x y : ℝ => x ^ y) 44330 = .ok 0 ∧
  (∀ alt : ℝ, 44330 < alt → normPressureHPa (fun x y : ℝ => x ^ y) alt = .error .outsideDomain)

/-- R129: `getValues()` issues POLL; a fault is reported and nothing is computed; otherwise the derived quantities are
those of the TEMP, PRESS and HUM that POLL left. Where SAMPLE is admitted and one of its transactions fails, POLL ends in
the state SAMPLE left and the BusError is reported, not the SequenceError that going on would end with. That POLL stops at its first fault, so that this is the fault reported, is
the model's inference (log 23); that a dew point or a normalized pressure without a number fails its own field and not the
call is the model's choice (log 25). -/
def Obligations.GetValuesFollowsPoll : Prop :=
  ∀ (ln : ℝ → ℝ) (pow : ℝ → ℝ → ℝ) (alt : ℝ) (s : State),
    (∃ t, runUntilFault Instr.pseudoPoll s = .next t ∧
      (t.status ≠ .ok → getValues ln pow alt s = .next (t, .error (.block t.status))) ∧
      (t.status = .ok → ∃ m : MeasurementResult ℝ, getValues ln pow alt s = .next (t, .ok m) ∧
        m.tC = t.temp / 100 ∧ m.tF = m.tC * 1.8 + 32 ∧ m.rH = t.hum / 1024 ∧ m.pressureHPa = t.press / 25600 ∧
        m.dewPoint = dewPoint ln m.tC m.rH ∧ m.normPressureHPa = normPressureHPa pow alt ∧ m.altitudeM = alt)) ∧
    (s.phase ≠ .uninitialized → busOk s 0 = false ∨ busOk s 1 = false ∨ busOk s 2 = false →
      ∃ t, exec .sample s = .next t ∧ t.status = .busError ∧ runUntilFault Instr.pseudoPoll s = .next t ∧
        getValues ln pow alt s = .next (t, .error (.block .busError)))

/-! ### What the host observes -/

/-- What the host observes of the calibration after INIT has completed (R35): each trim at its signedness, from the bytes
the sensor delivered, the mode, and the two status registers; every other register is observed as before. -/
def Obligations.HostObservesCalibrationAfterInit : Prop :=
  ∀ (s : State) (osr : Nat), s.phase = .uninitialized → 1 ≤ osr → osr ≤ 5 →
    busOk s 0 = true → busOk s 1 = true → busOk s 2 = true →
    let a : Nat → Int := fun i => (busByte s 0 i).toNat
    let b : Nat → Int := fun i => (busByte s 1 i).toNat
    let s8 : Int → Int := fun x => if x < 128 then x else x - 256
    let s16 : Int → Int := fun x => if x < 32768 then x else x - 65536
    let a16 : Nat → Int := fun i => a i + 256 * a (i + 1)
    ∃ t, exec (.init osr) s = .next t ∧
      (observe t .t1 = some (a16 0) ∧ observe t .t2 = some (s16 (a16 2)) ∧ observe t .t3 = some (s16 (a16 4))) ∧
      (observe t .p1 = some (a16 6) ∧ observe t .p2 = some (s16 (a16 8)) ∧ observe t .p3 = some (s16 (a16 10)) ∧
        observe t .p4 = some (s16 (a16 12)) ∧ observe t .p5 = some (s16 (a16 14)) ∧
        observe t .p6 = some (s16 (a16 16)) ∧ observe t .p7 = some (s16 (a16 18)) ∧
        observe t .p8 = some (s16 (a16 20)) ∧ observe t .p9 = some (s16 (a16 22))) ∧
      (observe t .h1 = some (a 25) ∧ observe t .h2 = some (s16 (b 0 + 256 * b 1)) ∧ observe t .h3 = some (b 2) ∧
        observe t .h4 = some (16 * s8 (b 3) + b 4 % 16) ∧ observe t .h5 = some (16 * s8 (b 5) + b 4 / 16) ∧
        observe t .h6 = some (s8 (b 6))) ∧
      (observe t .osr = some (osr : Int) ∧ observe t .phase = some 1 ∧ observe t .status = some 0) ∧
      ∀ r ∈ [Reg.adcP, .adcT, .adcH, .tFine, .tfValid, .temp, .press, .hum], observe t r = observe s r

/-- What the host observes after SAMPLE, COMPT, COMPP and COMPH have completed (R35): the counts as unsigned numbers, the
results as signed ones, with PHASE, TF_VALID and STATUS by their codes; every other register is observed as before. -/
def Obligations.HostObservesSampleAndResults : Prop :=
  (∀ s : State, s.phase ≠ .uninitialized → busOk s 0 = true → busOk s 1 = true → busOk s 2 = true →
    let r : Nat → Int := fun i => (busByte s 2 i).toNat
    ∃ t, exec .sample s = .next t ∧
      observe t .adcP = some ((65536 * r 0 + 256 * r 1 + r 2) / 16) ∧
      observe t .adcT = some ((65536 * r 3 + 256 * r 4 + r 5) / 16) ∧ observe t .adcH = some (256 * r 6 + r 7) ∧
      observe t .phase = some 2 ∧ observe t .tfValid = some 0 ∧ observe t .status = some 0 ∧
      ∀ x ∉ [Reg.adcP, .adcT, .adcH, .phase, .tfValid, .status], observe t x = observe s x) ∧
  (∀ s : State, s.phase = .sampling →
    ∃ t, exec .compt s = .next t ∧
      observe t .tFine = some (tempCalc s.cal s.raw.adcT).tFine ∧ observe t .temp = some (tempCalc s.cal s.raw.adcT).temp ∧
      observe t .tfValid = some 1 ∧ observe t .status = some 0 ∧
      ∀ x ∉ [Reg.tFine, .temp, .tfValid, .status], observe t x = observe s x) ∧
  (∀ s : State, s.phase = .sampling → s.tfValid = true →
    (∃ t, exec .compp s = .next t ∧
      observe t .press = some (pressure s.config.divRound s.cal s.raw.adcP s.tFine) ∧ observe t .status = some 0 ∧
      ∀ x ∉ [Reg.press, .status], observe t x = observe s x) ∧
    (∃ t, exec .comph s = .next t ∧
      observe t .hum = some (humCalc s.cal s.raw.adcH s.tFine).hum ∧ observe t .phase = some 1 ∧
      observe t .tfValid = some 0 ∧ observe t .status = some 0 ∧
      ∀ x ∉ [Reg.hum, .phase, .tfValid, .status], observe t x = observe s x))
end

