-- ==== Sys2Proof/Laws/Arith.lean ====
section
/-! SUPPORT. The shifts and the division as arithmetic that `omega` and the order lemmas of the library know. -/

namespace Sys2Proof.Machine

/-- A floor by a power of two is the Euclidean quotient. -/
theorem shr_eq_ediv (a : Int) (n : Nat) : shr a n = a / 2 ^ n := by
  rw [shr, Int.fdiv_eq_ediv_of_nonneg a (by positivity)]

/-- The right shift is Lean's arithmetic shift. -/
theorem shr_eq_shiftRight (a : Int) (n : Nat) : shr a n = a >>> n := by
  rw [shr_eq_ediv, Int.shiftRight_eq_div_pow]
  push_cast
  rfl

@[simp] theorem shr_zero_left (n : Nat) : shr 0 n = 0 := by simp [shr]

@[simp] theorem shl_zero_left (n : Nat) : shl 0 n = 0 := by simp [shl]

/-- The right shift is monotone. -/
theorem shr_le_shr {a b : Int} (h : a ≤ b) (n : Nat) : shr a n ≤ shr b n := by
  simp only [shr_eq_ediv]
  exact Int.ediv_le_ediv (by positivity) h

/-- Bounds pass through a right shift: the way to bound the intermediates one after another. -/
theorem shr_mem_of_mem {a lo hi : Int} (h : lo ≤ a ∧ a ≤ hi) (n : Nat) : shr lo n ≤ shr a n ∧ shr a n ≤ shr hi n :=
  ⟨shr_le_shr h.1 n, shr_le_shr h.2 n⟩

/-- A product of two bounded integers is bounded by the product of the bounds of their absolute values. -/
theorem abs_mul_le_of_abs_le {a b m n : Int} (ha : |a| ≤ m) (hb : |b| ≤ n) : |a * b| ≤ m * n := by
  rw [abs_mul]
  exact mul_le_mul ha hb (abs_nonneg b) (le_trans (abs_nonneg a) ha)

/-- The floor and the truncated quotient agree on an exact division. -/
theorem fdiv_eq_tdiv_of_dvd {a b : Int} (h : b ∣ a) : Int.fdiv a b = tdiv a b := by
  obtain ⟨k, rfl⟩ := h
  by_cases hb : b = 0
  · simp [hb, tdiv]
  · rw [tdiv, Int.mul_fdiv_cancel_left _ hb, Int.mul_tdiv_cancel_left _ hb]

/-- The clamp answers inside its bounds. -/
theorem clampHumidity_mem (y : Int) : 0 ≤ clampHumidity y ∧ clampHumidity y ≤ 419430400 := by
  unfold clampHumidity
  split
  · omega
  · split <;> omega

end Sys2Proof.Machine
end

