-- ==== Sys2Proof/Laws/State.lean ====
section
/-! SUPPORT. One lemma per field of State and per update of `Machine/Ops.lean`, each true by `rfl`: what the update writes,
and what it leaves alone. Later proofs cite these and unfold no record update. -/

namespace Sys2Proof.Machine

variable (s : State)

/-! ### raise -/

@[simp] theorem raise_cal (f : Status) : (raise f s).cal = s.cal := rfl
@[simp] theorem raise_osr (f : Status) : (raise f s).osr = s.osr := rfl
@[simp] theorem raise_raw (f : Status) : (raise f s).raw = s.raw := rfl
@[simp] theorem raise_tFine (f : Status) : (raise f s).tFine = s.tFine := rfl
@[simp] theorem raise_temp (f : Status) : (raise f s).temp = s.temp := rfl
@[simp] theorem raise_press (f : Status) : (raise f s).press = s.press := rfl
@[simp] theorem raise_hum (f : Status) : (raise f s).hum = s.hum := rfl
@[simp] theorem raise_phase (f : Status) : (raise f s).phase = s.phase := rfl
@[simp] theorem raise_tfValid (f : Status) : (raise f s).tfValid = s.tfValid := rfl
@[simp] theorem raise_status (f : Status) : (raise f s).status = f := rfl
@[simp] theorem raise_written (f : Status) : (raise f s).written = s.written := rfl
@[simp] theorem raise_config (f : Status) : (raise f s).config = s.config := rfl
@[simp] theorem raise_inputs (f : Status) : (raise f s).inputs = s.inputs := rfl
@[simp] theorem raise_answers (f : Status) : (raise f s).answers = s.answers := rfl
@[simp] theorem raise_busCount (f : Status) : (raise f s).busCount = s.busCount := rfl
@[simp] theorem raise_trace (f : Status) : (raise f s).trace = s.trace := rfl

/-! ### complete -/

@[simp] theorem complete_cal : (complete s).cal = s.cal := rfl
@[simp] theorem complete_osr : (complete s).osr = s.osr := rfl
@[simp] theorem complete_raw : (complete s).raw = s.raw := rfl
@[simp] theorem complete_tFine : (complete s).tFine = s.tFine := rfl
@[simp] theorem complete_temp : (complete s).temp = s.temp := rfl
@[simp] theorem complete_press : (complete s).press = s.press := rfl
@[simp] theorem complete_hum : (complete s).hum = s.hum := rfl
@[simp] theorem complete_phase : (complete s).phase = s.phase := rfl
@[simp] theorem complete_tfValid : (complete s).tfValid = s.tfValid := rfl
@[simp] theorem complete_status : (complete s).status = .ok := rfl
@[simp] theorem complete_written : (complete s).written = s.written := rfl
@[simp] theorem complete_config : (complete s).config = s.config := rfl
@[simp] theorem complete_inputs : (complete s).inputs = s.inputs := rfl
@[simp] theorem complete_answers : (complete s).answers = s.answers := rfl
@[simp] theorem complete_busCount : (complete s).busCount = s.busCount := rfl
@[simp] theorem complete_trace : (complete s).trace = s.trace := rfl

/-! ### transact -/

@[simp] theorem transact_cal (e : BusEvent) : (transact e s).cal = s.cal := rfl
@[simp] theorem transact_osr (e : BusEvent) : (transact e s).osr = s.osr := rfl
@[simp] theorem transact_raw (e : BusEvent) : (transact e s).raw = s.raw := rfl
@[simp] theorem transact_tFine (e : BusEvent) : (transact e s).tFine = s.tFine := rfl
@[simp] theorem transact_temp (e : BusEvent) : (transact e s).temp = s.temp := rfl
@[simp] theorem transact_press (e : BusEvent) : (transact e s).press = s.press := rfl
@[simp] theorem transact_hum (e : BusEvent) : (transact e s).hum = s.hum := rfl
@[simp] theorem transact_phase (e : BusEvent) : (transact e s).phase = s.phase := rfl
@[simp] theorem transact_tfValid (e : BusEvent) : (transact e s).tfValid = s.tfValid := rfl
@[simp] theorem transact_status (e : BusEvent) : (transact e s).status = s.status := rfl
@[simp] theorem transact_written (e : BusEvent) : (transact e s).written = s.written := rfl
@[simp] theorem transact_config (e : BusEvent) : (transact e s).config = s.config := rfl
@[simp] theorem transact_inputs (e : BusEvent) : (transact e s).inputs = s.inputs := rfl
@[simp] theorem transact_answers (e : BusEvent) : (transact e s).answers = s.answers.tail := rfl
@[simp] theorem transact_busCount (e : BusEvent) : (transact e s).busCount = s.busCount + 1 := rfl
@[simp] theorem transact_trace (e : BusEvent) : (transact e s).trace = s.trace ++ [e] := rfl

/-! ### wait -/

@[simp] theorem wait_cal (us : Nat) : (wait us s).cal = s.cal := rfl
@[simp] theorem wait_osr (us : Nat) : (wait us s).osr = s.osr := rfl
@[simp] theorem wait_raw (us : Nat) : (wait us s).raw = s.raw := rfl
@[simp] theorem wait_tFine (us : Nat) : (wait us s).tFine = s.tFine := rfl
@[simp] theorem wait_temp (us : Nat) : (wait us s).temp = s.temp := rfl
@[simp] theorem wait_press (us : Nat) : (wait us s).press = s.press := rfl
@[simp] theorem wait_hum (us : Nat) : (wait us s).hum = s.hum := rfl
@[simp] theorem wait_phase (us : Nat) : (wait us s).phase = s.phase := rfl
@[simp] theorem wait_tfValid (us : Nat) : (wait us s).tfValid = s.tfValid := rfl
@[simp] theorem wait_status (us : Nat) : (wait us s).status = s.status := rfl
@[simp] theorem wait_written (us : Nat) : (wait us s).written = s.written := rfl
@[simp] theorem wait_config (us : Nat) : (wait us s).config = s.config := rfl
@[simp] theorem wait_inputs (us : Nat) : (wait us s).inputs = s.inputs := rfl
@[simp] theorem wait_answers (us : Nat) : (wait us s).answers = s.answers := rfl
@[simp] theorem wait_busCount (us : Nat) : (wait us s).busCount = s.busCount := rfl
@[simp] theorem wait_trace (us : Nat) : (wait us s).trace = s.trace ++ [.wait us] := rfl

/-! ### commitCalibration -/

@[simp] theorem commitCalibration_cal (osr : Nat) (a : ByteVec 26) (b : ByteVec 7) : (commitCalibration osr a b s).cal = unpackCal a b := rfl
@[simp] theorem commitCalibration_osr (osr : Nat) (a : ByteVec 26) (b : ByteVec 7) : (commitCalibration osr a b s).osr = BitVec.ofNat 3 osr := rfl
@[simp] theorem commitCalibration_raw (osr : Nat) (a : ByteVec 26) (b : ByteVec 7) : (commitCalibration osr a b s).raw = s.raw := rfl
@[simp] theorem commitCalibration_tFine (osr : Nat) (a : ByteVec 26) (b : ByteVec 7) : (commitCalibration osr a b s).tFine = s.tFine := rfl
@[simp] theorem commitCalibration_temp (osr : Nat) (a : ByteVec 26) (b : ByteVec 7) : (commitCalibration osr a b s).temp = s.temp := rfl
@[simp] theorem commitCalibration_press (osr : Nat) (a : ByteVec 26) (b : ByteVec 7) : (commitCalibration osr a b s).press = s.press := rfl
@[simp] theorem commitCalibration_hum (osr : Nat) (a : ByteVec 26) (b : ByteVec 7) : (commitCalibration osr a b s).hum = s.hum := rfl
@[simp] theorem commitCalibration_phase (osr : Nat) (a : ByteVec 26) (b : ByteVec 7) : (commitCalibration osr a b s).phase = .calibrated := rfl
@[simp] theorem commitCalibration_tfValid (osr : Nat) (a : ByteVec 26) (b : ByteVec 7) : (commitCalibration osr a b s).tfValid = s.tfValid := rfl
@[simp] theorem commitCalibration_status (osr : Nat) (a : ByteVec 26) (b : ByteVec 7) : (commitCalibration osr a b s).status = s.status := rfl
@[simp] theorem commitCalibration_written (osr : Nat) (a : ByteVec 26) (b : ByteVec 7) : (commitCalibration osr a b s).written = { s.written with calibration := true } := rfl
@[simp] theorem commitCalibration_config (osr : Nat) (a : ByteVec 26) (b : ByteVec 7) : (commitCalibration osr a b s).config = s.config := rfl
@[simp] theorem commitCalibration_inputs (osr : Nat) (a : ByteVec 26) (b : ByteVec 7) : (commitCalibration osr a b s).inputs = s.inputs := rfl
@[simp] theorem commitCalibration_answers (osr : Nat) (a : ByteVec 26) (b : ByteVec 7) : (commitCalibration osr a b s).answers = s.answers := rfl
@[simp] theorem commitCalibration_busCount (osr : Nat) (a : ByteVec 26) (b : ByteVec 7) : (commitCalibration osr a b s).busCount = s.busCount := rfl
@[simp] theorem commitCalibration_trace (osr : Nat) (a : ByteVec 26) (b : ByteVec 7) : (commitCalibration osr a b s).trace = s.trace := rfl

/-! ### clearTfValid -/

@[simp] theorem clearTfValid_cal : (clearTfValid s).cal = s.cal := rfl
@[simp] theorem clearTfValid_osr : (clearTfValid s).osr = s.osr := rfl
@[simp] theorem clearTfValid_raw : (clearTfValid s).raw = s.raw := rfl
@[simp] theorem clearTfValid_tFine : (clearTfValid s).tFine = s.tFine := rfl
@[simp] theorem clearTfValid_temp : (clearTfValid s).temp = s.temp := rfl
@[simp] theorem clearTfValid_press : (clearTfValid s).press = s.press := rfl
@[simp] theorem clearTfValid_hum : (clearTfValid s).hum = s.hum := rfl
@[simp] theorem clearTfValid_phase : (clearTfValid s).phase = s.phase := rfl
@[simp] theorem clearTfValid_tfValid : (clearTfValid s).tfValid = false := rfl
@[simp] theorem clearTfValid_status : (clearTfValid s).status = s.status := rfl
@[simp] theorem clearTfValid_written : (clearTfValid s).written = s.written := rfl
@[simp] theorem clearTfValid_config : (clearTfValid s).config = s.config := rfl
@[simp] theorem clearTfValid_inputs : (clearTfValid s).inputs = s.inputs := rfl
@[simp] theorem clearTfValid_answers : (clearTfValid s).answers = s.answers := rfl
@[simp] theorem clearTfValid_busCount : (clearTfValid s).busCount = s.busCount := rfl
@[simp] theorem clearTfValid_trace : (clearTfValid s).trace = s.trace := rfl

/-! ### commitRaw -/

@[simp] theorem commitRaw_cal (r : ByteVec 8) : (commitRaw r s).cal = s.cal := rfl
@[simp] theorem commitRaw_osr (r : ByteVec 8) : (commitRaw r s).osr = s.osr := rfl
@[simp] theorem commitRaw_raw (r : ByteVec 8) : (commitRaw r s).raw = unpackRaw r := rfl
@[simp] theorem commitRaw_tFine (r : ByteVec 8) : (commitRaw r s).tFine = s.tFine := rfl
@[simp] theorem commitRaw_temp (r : ByteVec 8) : (commitRaw r s).temp = s.temp := rfl
@[simp] theorem commitRaw_press (r : ByteVec 8) : (commitRaw r s).press = s.press := rfl
@[simp] theorem commitRaw_hum (r : ByteVec 8) : (commitRaw r s).hum = s.hum := rfl
@[simp] theorem commitRaw_phase (r : ByteVec 8) : (commitRaw r s).phase = .sampling := rfl
@[simp] theorem commitRaw_tfValid (r : ByteVec 8) : (commitRaw r s).tfValid = s.tfValid := rfl
@[simp] theorem commitRaw_status (r : ByteVec 8) : (commitRaw r s).status = s.status := rfl
@[simp] theorem commitRaw_written (r : ByteVec 8) : (commitRaw r s).written = { s.written with raw := true } := rfl
@[simp] theorem commitRaw_config (r : ByteVec 8) : (commitRaw r s).config = s.config := rfl
@[simp] theorem commitRaw_inputs (r : ByteVec 8) : (commitRaw r s).inputs = s.inputs := rfl
@[simp] theorem commitRaw_answers (r : ByteVec 8) : (commitRaw r s).answers = s.answers := rfl
@[simp] theorem commitRaw_busCount (r : ByteVec 8) : (commitRaw r s).busCount = s.busCount := rfl
@[simp] theorem commitRaw_trace (r : ByteVec 8) : (commitRaw r s).trace = s.trace := rfl

/-! ### sampleBusError -/

@[simp] theorem sampleBusError_cal : (sampleBusError s).cal = s.cal := rfl
@[simp] theorem sampleBusError_osr : (sampleBusError s).osr = s.osr := rfl
@[simp] theorem sampleBusError_raw : (sampleBusError s).raw = s.raw := rfl
@[simp] theorem sampleBusError_tFine : (sampleBusError s).tFine = s.tFine := rfl
@[simp] theorem sampleBusError_temp : (sampleBusError s).temp = s.temp := rfl
@[simp] theorem sampleBusError_press : (sampleBusError s).press = s.press := rfl
@[simp] theorem sampleBusError_hum : (sampleBusError s).hum = s.hum := rfl
@[simp] theorem sampleBusError_phase : (sampleBusError s).phase = .calibrated := rfl
@[simp] theorem sampleBusError_tfValid : (sampleBusError s).tfValid = s.tfValid := rfl
@[simp] theorem sampleBusError_status : (sampleBusError s).status = .busError := rfl
@[simp] theorem sampleBusError_written : (sampleBusError s).written = s.written := rfl
@[simp] theorem sampleBusError_config : (sampleBusError s).config = s.config := rfl
@[simp] theorem sampleBusError_inputs : (sampleBusError s).inputs = s.inputs := rfl
@[simp] theorem sampleBusError_answers : (sampleBusError s).answers = s.answers := rfl
@[simp] theorem sampleBusError_busCount : (sampleBusError s).busCount = s.busCount := rfl
@[simp] theorem sampleBusError_trace : (sampleBusError s).trace = s.trace := rfl

/-! ### writeTemperature -/

@[simp] theorem writeTemperature_cal (x y : Int) : (writeTemperature x y s).cal = s.cal := rfl
@[simp] theorem writeTemperature_osr (x y : Int) : (writeTemperature x y s).osr = s.osr := rfl
@[simp] theorem writeTemperature_raw (x y : Int) : (writeTemperature x y s).raw = s.raw := rfl
@[simp] theorem writeTemperature_tFine (x y : Int) : (writeTemperature x y s).tFine = x := rfl
@[simp] theorem writeTemperature_temp (x y : Int) : (writeTemperature x y s).temp = y := rfl
@[simp] theorem writeTemperature_press (x y : Int) : (writeTemperature x y s).press = s.press := rfl
@[simp] theorem writeTemperature_hum (x y : Int) : (writeTemperature x y s).hum = s.hum := rfl
@[simp] theorem writeTemperature_phase (x y : Int) : (writeTemperature x y s).phase = s.phase := rfl
@[simp] theorem writeTemperature_tfValid (x y : Int) : (writeTemperature x y s).tfValid = true := rfl
@[simp] theorem writeTemperature_status (x y : Int) : (writeTemperature x y s).status = s.status := rfl
@[simp] theorem writeTemperature_written (x y : Int) : (writeTemperature x y s).written = { s.written with tFine := true } := rfl
@[simp] theorem writeTemperature_config (x y : Int) : (writeTemperature x y s).config = s.config := rfl
@[simp] theorem writeTemperature_inputs (x y : Int) : (writeTemperature x y s).inputs = s.inputs := rfl
@[simp] theorem writeTemperature_answers (x y : Int) : (writeTemperature x y s).answers = s.answers := rfl
@[simp] theorem writeTemperature_busCount (x y : Int) : (writeTemperature x y s).busCount = s.busCount := rfl
@[simp] theorem writeTemperature_trace (x y : Int) : (writeTemperature x y s).trace = s.trace := rfl

/-! ### writePressure -/

@[simp] theorem writePressure_cal (x : Int) : (writePressure x s).cal = s.cal := rfl
@[simp] theorem writePressure_osr (x : Int) : (writePressure x s).osr = s.osr := rfl
@[simp] theorem writePressure_raw (x : Int) : (writePressure x s).raw = s.raw := rfl
@[simp] theorem writePressure_tFine (x : Int) : (writePressure x s).tFine = s.tFine := rfl
@[simp] theorem writePressure_temp (x : Int) : (writePressure x s).temp = s.temp := rfl
@[simp] theorem writePressure_press (x : Int) : (writePressure x s).press = x := rfl
@[simp] theorem writePressure_hum (x : Int) : (writePressure x s).hum = s.hum := rfl
@[simp] theorem writePressure_phase (x : Int) : (writePressure x s).phase = s.phase := rfl
@[simp] theorem writePressure_tfValid (x : Int) : (writePressure x s).tfValid = s.tfValid := rfl
@[simp] theorem writePressure_status (x : Int) : (writePressure x s).status = s.status := rfl
@[simp] theorem writePressure_written (x : Int) : (writePressure x s).written = { s.written with press := true } := rfl
@[simp] theorem writePressure_config (x : Int) : (writePressure x s).config = s.config := rfl
@[simp] theorem writePressure_inputs (x : Int) : (writePressure x s).inputs = s.inputs := rfl
@[simp] theorem writePressure_answers (x : Int) : (writePressure x s).answers = s.answers := rfl
@[simp] theorem writePressure_busCount (x : Int) : (writePressure x s).busCount = s.busCount := rfl
@[simp] theorem writePressure_trace (x : Int) : (writePressure x s).trace = s.trace := rfl

/-! ### writeHumidity -/

@[simp] theorem writeHumidity_cal (x : Int) : (writeHumidity x s).cal = s.cal := rfl
@[simp] theorem writeHumidity_osr (x : Int) : (writeHumidity x s).osr = s.osr := rfl
@[simp] theorem writeHumidity_raw (x : Int) : (writeHumidity x s).raw = s.raw := rfl
@[simp] theorem writeHumidity_tFine (x : Int) : (writeHumidity x s).tFine = s.tFine := rfl
@[simp] theorem writeHumidity_temp (x : Int) : (writeHumidity x s).temp = s.temp := rfl
@[simp] theorem writeHumidity_press (x : Int) : (writeHumidity x s).press = s.press := rfl
@[simp] theorem writeHumidity_hum (x : Int) : (writeHumidity x s).hum = x := rfl
@[simp] theorem writeHumidity_phase (x : Int) : (writeHumidity x s).phase = .calibrated := rfl
@[simp] theorem writeHumidity_tfValid (x : Int) : (writeHumidity x s).tfValid = false := rfl
@[simp] theorem writeHumidity_status (x : Int) : (writeHumidity x s).status = s.status := rfl
@[simp] theorem writeHumidity_written (x : Int) : (writeHumidity x s).written = { s.written with hum := true } := rfl
@[simp] theorem writeHumidity_config (x : Int) : (writeHumidity x s).config = s.config := rfl
@[simp] theorem writeHumidity_inputs (x : Int) : (writeHumidity x s).inputs = s.inputs := rfl
@[simp] theorem writeHumidity_answers (x : Int) : (writeHumidity x s).answers = s.answers := rfl
@[simp] theorem writeHumidity_busCount (x : Int) : (writeHumidity x s).busCount = s.busCount := rfl
@[simp] theorem writeHumidity_trace (x : Int) : (writeHumidity x s).trace = s.trace := rfl

/-! ### takeInput -/

@[simp] theorem takeInput_cal : (takeInput s).cal = s.cal := rfl
@[simp] theorem takeInput_osr : (takeInput s).osr = s.osr := rfl
@[simp] theorem takeInput_raw : (takeInput s).raw = s.raw := rfl
@[simp] theorem takeInput_tFine : (takeInput s).tFine = s.tFine := rfl
@[simp] theorem takeInput_temp : (takeInput s).temp = s.temp := rfl
@[simp] theorem takeInput_press : (takeInput s).press = s.press := rfl
@[simp] theorem takeInput_hum : (takeInput s).hum = s.hum := rfl
@[simp] theorem takeInput_phase : (takeInput s).phase = s.phase := rfl
@[simp] theorem takeInput_tfValid : (takeInput s).tfValid = s.tfValid := rfl
@[simp] theorem takeInput_status : (takeInput s).status = s.status := rfl
@[simp] theorem takeInput_written : (takeInput s).written = s.written := rfl
@[simp] theorem takeInput_config : (takeInput s).config = s.config := rfl
@[simp] theorem takeInput_inputs : (takeInput s).inputs = s.inputs.tail := rfl
@[simp] theorem takeInput_answers : (takeInput s).answers = s.answers := rfl
@[simp] theorem takeInput_busCount : (takeInput s).busCount = s.busCount := rfl
@[simp] theorem takeInput_trace : (takeInput s).trace = s.trace := rfl

/-! ### resetBlock -/

@[simp] theorem resetBlock_cal : (resetBlock s).cal = .zero := rfl
@[simp] theorem resetBlock_osr : (resetBlock s).osr = 0 := rfl
@[simp] theorem resetBlock_raw : (resetBlock s).raw = .zero := rfl
@[simp] theorem resetBlock_tFine : (resetBlock s).tFine = 0 := rfl
@[simp] theorem resetBlock_temp : (resetBlock s).temp = 0 := rfl
@[simp] theorem resetBlock_press : (resetBlock s).press = 0 := rfl
@[simp] theorem resetBlock_hum : (resetBlock s).hum = 0 := rfl
@[simp] theorem resetBlock_phase : (resetBlock s).phase = .uninitialized := rfl
@[simp] theorem resetBlock_tfValid : (resetBlock s).tfValid = false := rfl
@[simp] theorem resetBlock_status : (resetBlock s).status = .ok := rfl
@[simp] theorem resetBlock_written : (resetBlock s).written = .nothing := rfl
@[simp] theorem resetBlock_config : (resetBlock s).config = s.config := rfl
@[simp] theorem resetBlock_inputs : (resetBlock s).inputs = s.inputs := rfl
@[simp] theorem resetBlock_answers : (resetBlock s).answers = s.answers := rfl
@[simp] theorem resetBlock_busCount : (resetBlock s).busCount = s.busCount := rfl
@[simp] theorem resetBlock_trace : (resetBlock s).trace = s.trace := rfl

end Sys2Proof.Machine
end

