-- ==== Sys2Proof/Laws/Ops.lean ====
section
/-! SUPPORT. The bus port: what one transaction answers and what it leaves, and that a transaction moves the sensor's
answers on by one. -/

namespace Sys2Proof.Machine

variable (s : State)

/-- After one transaction the `k`-th next answer is the one that was the `k + 1`-st. -/
@[simp] theorem busOk_transact (e : BusEvent) (k : Nat) : busOk (transact e s) k = busOk s (k + 1) := by
  have hc : s.busCount + 1 + k = s.busCount + (k + 1) := by omega
  simp [busOk, hc]

/-- After one transaction the `k`-th next answer delivers the bytes of the one that was the `k + 1`-st. -/
@[simp] theorem busByte_transact (e : BusEvent) (k i : Nat) : busByte (transact e s) k i = busByte s (k + 1) i := by
  have hc : s.busCount + 1 + k = s.busCount + (k + 1) := by omega
  simp [busByte, hc]

/-- The sensor's answers depend on the listed answers and the transaction counter alone. -/
theorem busOk_congr {s t : State} (ha : s.answers = t.answers) (hc : s.busCount = t.busCount) (k : Nat) :
    busOk s k = busOk t k := by
  simp only [busOk, ha, hc]

theorem busByte_congr {s t : State} (ha : s.answers = t.answers) (hc : s.busCount = t.busCount) (k i : Nat) :
    busByte s k i = busByte t k i := by
  simp only [busByte, ha, hc]

@[simp] theorem busOk_wait (us k : Nat) : busOk (wait us s) k = busOk s k := rfl
@[simp] theorem busByte_wait (us k i : Nat) : busByte (wait us s) k i = busByte s k i := rfl
@[simp] theorem busOk_clearTfValid (k : Nat) : busOk (clearTfValid s) k = busOk s k := rfl
@[simp] theorem busByte_clearTfValid (k i : Nat) : busByte (clearTfValid s) k i = busByte s k i := rfl
@[simp] theorem busOk_takeInput (k : Nat) : busOk (takeInput s) k = busOk s k := rfl
@[simp] theorem busByte_takeInput (k i : Nat) : busByte (takeInput s) k i = busByte s k i := rfl

/-- A read whose transaction completes delivers its bytes (R45). -/
theorem memRead_ok (reg : Byte) (n : Nat) (h : busOk s 0 = true) :
    memRead reg n s = (some (fun i : Fin n => busByte s 0 i), transact (.read s.config.devAddr reg n true) s) := by
  simp [memRead, h]

/-- A read whose transaction fails delivers no bytes (R45). -/
theorem memRead_fail (reg : Byte) (n : Nat) (h : busOk s 0 = false) :
    memRead reg n s = (none, transact (.read s.config.devAddr reg n false) s) := by
  simp [memRead, h]

/-- A write answers whether its transaction completed, and leaves that transaction's event (R46). -/
theorem memWrite_eq (reg : Byte) (v : List Byte) {ok : Bool} (h : busOk s 0 = ok) :
    memWrite reg v s = (ok, transact (.write s.config.devAddr reg v ok) s) := by
  simp [memWrite, h]

/-- A register is observed exactly where it holds a value (R24, R35). -/
theorem observe_eq_some_iff (r : Reg) (x : Int) :
    observe s r = some x ↔ holdsValue s r = true ∧ regValue s r = x := by
  simp [observe]

theorem observe_eq_none_iff (r : Reg) : observe s r = none ↔ holdsValue s r = false := by
  simp [observe]

theorem phaseCode_inj {p q : Phase} : phaseCode p = phaseCode q ↔ p = q := by
  cases p <;> cases q <;> decide

theorem statusCode_inj {f g : Status} : statusCode f = statusCode g ↔ f = g := by
  cases f <;> cases g <;> decide

/-- One register looks the same in two states. -/
theorem observe_eq_iff {s t : State} (r : Reg) : observe s r = observe t r ↔
    holdsValue s r = holdsValue t r ∧ (holdsValue s r = true → regValue s r = regValue t r) := by
  unfold observe
  cases h : holdsValue s r <;> cases h' : holdsValue t r <;> simp

/-- Two states look the same to the host exactly when they agree on PHASE, TF_VALID, STATUS, on which registers hold a
value, and on the contents of those that do. -/
theorem observe_agree_iff {s t : State} :
    (∀ r, observe s r = observe t r) ↔
      s.phase = t.phase ∧ s.tfValid = t.tfValid ∧ s.status = t.status ∧ s.written = t.written ∧
      (s.written.calibration = true → s.cal = t.cal ∧ s.osr = t.osr) ∧ (s.written.raw = true → s.raw = t.raw) ∧
      (s.written.tFine = true → s.tFine = t.tFine ∧ s.temp = t.temp) ∧ (s.written.press = true → s.press = t.press) ∧
      (s.written.hum = true → s.hum = t.hum) := by
  simp only [observe_eq_iff]
  constructor
  · intro h
    have hw : s.written = t.written := by
      have := (h .t1).1; have := (h .adcP).1; have := (h .tFine).1; have := (h .press).1; have := (h .hum).1
      simp only [holdsValue] at *
      cases hs : s.written; cases ht : t.written; simp_all
    refine ⟨?_, ?_, ?_, hw, fun hc => ⟨?_, ?_⟩, fun hc => ?_, fun hc => ⟨(h .tFine).2 hc, (h .temp).2 hc⟩,
      (h .press).2, (h .hum).2⟩
    · have := (h .phase).2 rfl
      simpa [regValue, ← BitVec.toNat_eq, phaseCode_inj] using this
    · have := (h .tfValid).2 rfl
      revert this; simp [regValue]; cases s.tfValid <;> cases t.tfValid <;> simp
    · have := (h .status).2 rfl
      simpa [regValue, ← BitVec.toNat_eq, statusCode_inj] using this
    · have e := fun r hr => (h r).2 hr
      cases hs : s.cal; cases ht : t.cal
      have := e .t1 hc; have := e .t2 hc; have := e .t3 hc; have := e .p1 hc; have := e .p2 hc; have := e .p3 hc
      have := e .p4 hc; have := e .p5 hc; have := e .p6 hc; have := e .p7 hc; have := e .p8 hc; have := e .p9 hc
      have := e .h1 hc; have := e .h2 hc; have := e .h3 hc; have := e .h4 hc; have := e .h5 hc; have := e .h6 hc
      simp_all [regValue, ← BitVec.toNat_eq, BitVec.toInt_inj]
    · have := (h .osr).2 hc
      simpa [regValue, ← BitVec.toNat_eq] using this
    · have := (h .adcP).2 hc; have := (h .adcT).2 hc; have := (h .adcH).2 hc
      cases hs : s.raw; cases ht : t.raw
      simp_all [regValue, ← BitVec.toNat_eq]
  · rintro ⟨hp, hv, hst, hw, hc, hr, hf, hpr, hh⟩ r
    cases r <;> simp only [holdsValue, regValue, hp, hv, hst, hw] at * <;> simp_all

end Sys2Proof.Machine
end

