-- ==== Sys2Proof/Laws/Meanings.lean ====
section
/-! SUPPORT. What each operation can do, said once: one inversion lemma per meaning and one for the step. Later proofs
take a case from here and unfold no meaning. The states are written with the named updates of `Machine/Ops.lean`. -/

namespace Sys2Proof.Machine

variable {s t : State}

/-- The state after INIT's first transaction. -/
abbrev afterBlockA (ok : Bool) (s : State) : State := transact (.read s.config.devAddr s.config.calABase 26 ok) s

/-- The state after INIT's second transaction, the first having completed. -/
abbrev afterBlockB (ok : Bool) (s : State) : State :=
  transact (.read s.config.devAddr s.config.calBBase 7 ok) (afterBlockA true s)

/-- The state after INIT's third transaction, the first two having completed. -/
abbrev afterInitControl (ok : Bool) (s : State) : State :=
  transact (.write s.config.devAddr s.config.ctrlMeas [ctrlMeasByte 1 modeNormal] ok) (afterBlockB true s)

/-- Everything INIT can do. -/
theorem execInit_cases {osr : Nat} (h : execInit osr s = .next t) :
    (s.phase ≠ .uninitialized ∧ t = raise .sequenceError s) ∨
    (s.phase = .uninitialized ∧ legalMode osr = false ∧ t = raise .configurationError s) ∨
    (s.phase = .uninitialized ∧ legalMode osr = true ∧
      ((busOk s 0 = false ∧ t = raise .busError (afterBlockA false s)) ∨
       (busOk s 0 = true ∧ busOk s 1 = false ∧ t = raise .busError (afterBlockB false s)) ∨
       (busOk s 0 = true ∧ busOk s 1 = true ∧ busOk s 2 = false ∧ t = raise .busError (afterInitControl false s)) ∨
       (busOk s 0 = true ∧ busOk s 1 = true ∧ busOk s 2 = true ∧
         t = complete (commitCalibration osr (fun i => busByte s 0 i) (fun i => busByte s 1 i)
           (afterInitControl true s))))) := by
  have ht := (Host.Outcome.next.inj h).symm
  by_cases hp : s.phase = .uninitialized
  · cases hm : legalMode osr
    · refine .inr (.inl ⟨hp, rfl, ?_⟩)
      simpa [admitsInit, hp, hm] using ht
    · refine .inr (.inr ⟨hp, rfl, ?_⟩)
      simp only [admitsInit, hp, hm, beq_self_eq_true, Bool.not_true, Bool.false_eq_true, if_false] at ht
      subst ht
      cases h0 : busOk s 0
      · simp [initBlockA, memRead_fail, h0]
      · cases h1 : busOk s 1
        · simp [initBlockA, initBlockB, memRead_ok, memRead_fail, h0, h1]
        · cases h2 : busOk s 2 <;>
            simp [initBlockA, initBlockB, initControl, memRead_ok, memWrite, h0, h1, h2] <;> rfl
  · refine .inl ⟨hp, ?_⟩
    simpa [admitsInit, hp] using ht

/-- The state after SAMPLE's first transaction. -/
abbrev afterHumWrite (ok : Bool) (s : State) : State :=
  transact (.write s.config.devAddr s.config.ctrlHum [ctrlHumByte s.osr] ok) (clearTfValid s)

/-- The state after SAMPLE's second transaction, the first having completed. -/
abbrev afterTrigger (ok : Bool) (s : State) : State :=
  transact (.write s.config.devAddr s.config.ctrlMeas [ctrlMeasByte s.osr modeForced] ok) (afterHumWrite true s)

/-- The state after the wait and SAMPLE's third transaction, the first two having completed. -/
abbrev afterBurst (ok : Bool) (s : State) : State :=
  transact (.read s.config.devAddr s.config.dataBase 8 ok) (wait (tSettle s.osr) (afterTrigger true s))

/-- Everything SAMPLE can do. -/
theorem execSample_cases (h : execSample s = .next t) :
    (s.phase = .uninitialized ∧ t = raise .sequenceError s) ∨
    (s.phase ≠ .uninitialized ∧
      ((busOk s 0 = false ∧ t = sampleBusError (afterHumWrite false s)) ∨
       (busOk s 0 = true ∧ busOk s 1 = false ∧ t = sampleBusError (afterTrigger false s)) ∨
       (busOk s 0 = true ∧ busOk s 1 = true ∧ busOk s 2 = false ∧ t = sampleBusError (afterBurst false s)) ∨
       (busOk s 0 = true ∧ busOk s 1 = true ∧ busOk s 2 = true ∧
         t = complete (commitRaw (fun i => busByte s 2 i) (afterBurst true s))))) := by
  have ht := (Host.Outcome.next.inj h).symm
  by_cases hp : s.phase = .uninitialized
  · refine .inl ⟨hp, ?_⟩
    simpa [admitsSample, hp] using ht
  · refine .inr ⟨hp, ?_⟩
    have hf : admitsSample s = true := by simpa [admitsSample] using hp
    simp only [hf, Bool.not_true, Bool.false_eq_true, if_false] at ht
    subst ht
    cases h0 : busOk s 0
    · simp [sampleHumidity, memWrite, h0]
    · cases h1 : busOk s 1
      · simp [sampleHumidity, sampleTrigger, memWrite, h0, h1]
      · cases h2 : busOk s 2 <;>
          simp [sampleHumidity, sampleTrigger, sampleBurst, memWrite, memRead, h0, h1, h2]

/-- Everything COMPT can do. -/
theorem execCompt_cases (h : execCompt s = .next t) :
    (s.phase ≠ .sampling ∧ t = raise .sequenceError s) ∨
    (s.phase = .sampling ∧
      t = complete (writeTemperature (tempCalc s.cal s.raw.adcT).tFine (tempCalc s.cal s.raw.adcT).temp s)) := by
  have ht := (Host.Outcome.next.inj h).symm
  by_cases hp : s.phase = .sampling
  · exact .inr ⟨hp, by simpa [admitsCompt, hp] using ht⟩
  · exact .inl ⟨hp, by simpa [admitsCompt, hp] using ht⟩

/-- Everything COMPP can do. -/
theorem execCompp_cases (h : execCompp s = .next t) :
    (¬(s.phase = .sampling ∧ s.tfValid = true) ∧ t = raise .sequenceError s) ∨
    ((s.phase = .sampling ∧ s.tfValid = true) ∧
      t = complete (writePressure (pressure s.config.divRound s.cal s.raw.adcP s.tFine) s)) := by
  have ht := (Host.Outcome.next.inj h).symm
  by_cases hp : s.phase = .sampling ∧ s.tfValid = true
  · exact .inr ⟨hp, by simpa [admitsTFine, hp] using ht⟩
  · refine .inl ⟨hp, ?_⟩
    have hf : admitsTFine s = false := by simpa [admitsTFine] using hp
    simpa [hf] using ht

/-- Everything COMPH can do. -/
theorem execComph_cases (h : execComph s = .next t) :
    (¬(s.phase = .sampling ∧ s.tfValid = true) ∧ t = raise .sequenceError s) ∨
    ((s.phase = .sampling ∧ s.tfValid = true) ∧
      t = complete (writeHumidity (humCalc s.cal s.raw.adcH s.tFine).hum s)) := by
  have ht := (Host.Outcome.next.inj h).symm
  by_cases hp : s.phase = .sampling ∧ s.tfValid = true
  · exact .inr ⟨hp, by simpa [admitsTFine, hp] using ht⟩
  · refine .inl ⟨hp, ?_⟩
    have hf : admitsTFine s = false := by simpa [admitsTFine] using hp
    simpa [hf] using ht

/-- Everything a step can do. -/
theorem step_cases (h : step s = .next t) :
    (s.inputs = [] ∧ t = s) ∨
    (∃ rest, s.inputs = .reset :: rest ∧ t = resetBlock (takeInput s)) ∨
    (∃ w rest r, s.inputs = .command w :: rest ∧ decode w = .error r ∧
      t = raise .illegalCommand (takeInput s)) ∨
    (∃ w rest i, s.inputs = .command w :: rest ∧ decode w = .ok i ∧ exec i (takeInput s) = .next t) := by
  unfold step at h
  match hi : s.inputs with
  | [] =>
    simp only [hi] at h
    exact .inl ⟨rfl, (Host.Outcome.next.inj h).symm⟩
  | .reset :: rest =>
    simp only [hi] at h
    exact .inr (.inl ⟨rest, rfl, (Host.Outcome.next.inj h).symm⟩)
  | .command w :: rest =>
    simp only [hi] at h
    match hd : decode w with
    | .error r =>
      simp only [hd] at h
      exact .inr (.inr (.inl ⟨w, rest, r, rfl, hd, (Host.Outcome.next.inj h).symm⟩))
    | .ok i =>
      simp only [hd] at h
      exact .inr (.inr (.inr ⟨w, rest, i, rfl, hd, h⟩))

/-- A property that every start has and every step keeps holds of every state a run reaches. -/
theorem reachable_of_kept {P : State → Prop} (hstart : ∀ s, Started s → P s)
    (hstep : ∀ s t, P s → Machine.step s = .next t → P t) (h : Reachable s) : P s := by
  induction h with
  | start h => exact hstart _ h
  | step _ h ih => exact hstep _ _ ih h

end Sys2Proof.Machine
end

