-- ==== Sys2Proof/Laws/Operands.lean ====
section
/-! SUPPORT. The byte assemblies as numbers: one lemma per assembly. -/

namespace Sys2Proof.Machine

/-- `u16le` is `b[i] + 256 * b[i+1]` (R49): 16 bits hold it. -/
@[simp] theorem u16le_toNat (lo hi : Byte) : (u16le lo hi).toNat = lo.toNat + 256 * hi.toNat := by
  have hlo := lo.isLt
  have hhi := hi.isLt
  rw [u16le, BitVec.toNat_ofNat]
  omega

/-- Twelve bits put together from a byte and a nibble. -/
theorem append_nibble_toNat (msb : Byte) (nibble : BitVec 4) :
    (msb ++ nibble : BitVec (8 + 4)).toNat = 16 * msb.toNat + nibble.toNat := by
  have hn := nibble.isLt
  rw [BitVec.toNat_append, ← Nat.shiftLeft_add_eq_or_of_lt hn, Nat.shiftLeft_eq]
  omega

/-- `s12_lo` before the sign is read off: 16 times the byte plus the low nibble (R66). -/
@[simp] theorem s12Lo_toNat (msb shared : Byte) : (s12Lo msb shared).toNat = 16 * msb.toNat + shared.toNat % 16 := by
  refine (append_nibble_toNat msb _).trans ?_
  simp

/-- `s12_hi` before the sign is read off: 16 times the byte plus the high nibble (R66). -/
@[simp] theorem s12Hi_toNat (msb shared : Byte) : (s12Hi msb shared).toNat = 16 * msb.toNat + shared.toNat / 16 := by
  have hs := shared.isLt
  refine (append_nibble_toNat msb _).trans ?_
  rw [BitVec.extractLsb'_toNat, Nat.shiftRight_eq_div_pow]
  omega

/-- Three bytes are a number below 2^24 (R50). -/
theorem be24_lt (b0 b1 b2 : Byte) : be24 b0 b1 b2 < 2 ^ 24 := by
  have h0 := b0.isLt
  have h1 := b1.isLt
  have h2 := b2.isLt
  rw [be24]
  omega

end Sys2Proof.Machine
end

