-- ==== Sys2Proof/Laws/PerInstr.lean ====
section
/-! SUPPORT. Statements made per constructor of `Instr`: the encoder's word lies in its own row of the opcode table. -/

namespace Sys2Proof.Laws

/-- The row's `mask` (R61). -/
def rowMask : Instr → Byte
  | .init _ => 0xF8
  | .sample => 0xFF
  | .compt => 0xFF
  | .compp => 0xFF
  | .comph => 0xFF

/-- The row's `match` (R61). -/
def rowMatch : Instr → Byte
  | .init _ => 0x10
  | .sample => 0x20
  | .compt => 0x30
  | .compp => 0x40
  | .comph => 0x50

/-- The word of a well-formed instruction matches its row of the opcode table. -/
def InTable.Statement (i : Instr) : Prop := i.wf = true → encode i &&& rowMask i = rowMatch i

/-- The operand's three bits do not reach the row's mask. -/
theorem commandWord_init_masked (x : BitVec 3) : commandWord 0x1 x &&& 0xF8 = 0x10 := by
  revert x
  decide

theorem InTable.init (osr : Nat) : InTable.Statement (.init osr) := fun _ => commandWord_init_masked _

theorem InTable.sample : InTable.Statement .sample := fun _ => by decide

theorem InTable.compt : InTable.Statement .compt := fun _ => by decide

theorem InTable.compp : InTable.Statement .compp := fun _ => by decide

theorem InTable.comph : InTable.Statement .comph := fun _ => by decide

end Sys2Proof.Laws
end

