-- ==== Sys2Proof/Tests/Slice0.lean ====
section
/-! SUPPORT. The model's own tests: the well-formedness smoke, command words written out from R61, one-step tests with the
vectors of `95_test_vectors.md`, and a witness for the hypotheses of every statement that has some. The sensor's answers
are always listed, so no test evaluates a free value. -/

namespace Sys2Proof.Tests

open Sys2Proof.Machine Sys2Proof.Claims

/-! ### States the tests start from -/

/-- The next state, where there is one. -/
def nextOf : Host.Outcome State Fault Refusal → Option State
  | .next t => some t
  | .fault _ => none
  | .refused _ => none

/-- The example trims EX of `95_test_vectors.md`. -/
def exTrims : Calibration where
  t1 := 27504
  t2 := 26435
  t3 := -1000
  p1 := 36477
  p2 := -10685
  p3 := 3024
  p4 := 2855
  p5 := 140
  p6 := -7
  p7 := 15500
  p8 := -14600
  p9 := 6000
  h1 := 75
  h2 := 367
  h3 := 0
  h4 := 301
  h5 := 50
  h6 := 30

/-- Block A of vector U1. -/
def blockA : List Byte :=
  [0x70, 0x6B, 0x43, 0x67, 0x18, 0xFC, 0x7D, 0x8E, 0x43, 0xD6, 0xD0, 0x0B, 0x27] ++
  [0x0B, 0x8C, 0x00, 0xF9, 0xFF, 0x8C, 0x3C, 0xF8, 0xC6, 0x70, 0x17, 0xAA, 0x4B]

/-- Block B of vector U2. -/
def blockB : List Byte := [0x6F, 0x01, 0x00, 0x12, 0x2D, 0x03, 0x1E]

/-- The burst of vector W1. -/
def burst : List Byte := [0x65, 0x5A, 0xC7, 0x7E, 0xED, 0x0F, 0x75, 0x30]

/-- INIT's three transactions completing. -/
def initAnswers : List BusAnswer := [.ack blockA, .ack blockB, .ack []]

/-- SAMPLE's three transactions completing. -/
def sampleAnswers : List BusAnswer := [.ack [], .ack [], .ack burst]

/-- After reset, with these answers of the sensor to come. -/
def fresh (answers : List BusAnswer) : State := { State.reset with answers := answers }

/-- Calibrated with EX and OSR = 1. -/
def calibrated : State :=
  { State.reset with
    cal := exTrims
    osr := 1
    phase := .calibrated
    written := { Written.nothing with calibration := true } }

/-- Sampling, `TF_VALID` = 0, the counts of W1. -/
def sampling : State :=
  { calibrated with
    raw := ⟨415148, 519888, 30000⟩
    phase := .sampling
    written := { calibrated.written with raw := true } }

/-- Sampling, `TF_VALID` = 1, with what COMPT computes from the counts of W1 (vector T1). -/
def compensable : State :=
  { sampling with
    tFine := 128422
    temp := 2508
    tfValid := true
    written := { sampling.written with tFine := true } }

/-- The state, with this command word presented next. -/
def presented (w : Byte) (s : State) : State := { s with inputs := [.command w] }

/-! ### Well-formedness -/

/-- The one check of `WellFormed.lean` refuses an operand that has no three-bit field. -/
theorem test_wf_refuses_wide_operand : Instr.wf (.init 8) = false := by decide

theorem test_wf_accepts : (Instr.init 7).wf = true ∧ Instr.sample.wf = true := by decide

/-! ### Words written out bit by bit from R61 -/

theorem test_decode_init : decode 0b00010101 = .ok (.init 5) := rfl
theorem test_decode_sample : decode 0b00100000 = .ok .sample := rfl
theorem test_decode_compt : decode 0b00110000 = .ok .compt := rfl
theorem test_decode_compp : decode 0b01000000 = .ok .compp := rfl
theorem test_decode_comph : decode 0b01010000 = .ok .comph := rfl

/-- The illegal words of section 2.1 of the vectors. -/
theorem test_decode_illegal :
    decode 0x18 = .error .bitThree ∧ decode 0x21 = .error .operand ∧ decode 0x58 = .error .bitThree ∧
    decode 0x00 = .error .opcode ∧ decode 0x60 = .error .opcode ∧ decode 0xFF = .error .opcode :=
  ⟨rfl, rfl, rfl, rfl, rfl, rfl⟩

theorem test_decodeTableWord : decodeTableWord 8 0x10 = some (.init 0) ∧ decodeTableWord 8 0x21 = none := ⟨rfl, rfl⟩

/-- Section 2.4 of the vectors: control bytes and settle times. -/
theorem test_control_bytes :
    ctrlMeasByte 1 modeNormal = 0x27 ∧ ctrlMeasByte 2 modeForced = 0x49 ∧ ctrlMeasByte 5 modeForced = 0xB5 ∧
    ctrlHumByte 5 = 0x05 ∧ tSettle 1 = 16200 ∧ tSettle 5 = 223200 := by decide

/-- Vectors U3 and U4: the packed values. -/
theorem test_packed :
    (s12Lo 0xFF 0xA5).toInt = -11 ∧ (s12Hi 0x80 0xA5).toInt = -2038 ∧ (s12Lo 0x7F 0x0F).toInt = 2047 ∧
    (s12Hi 0x7F 0x0F).toInt = 2032 := by decide

/-! ### One step of each instruction -/

/-- Vectors U1 and U2 and the bus trace of R80: INIT 1 right after reset. -/
theorem test_init_commits :
    (nextOf (step ((fresh initAnswers).withFetchWord 8 0x11))).map
      (fun t => (t.cal, t.osr, t.phase, t.status, t.trace)) =
    some (exTrims, 1, .calibrated, .ok,
      [.read 0x76 0x88 26 true, .read 0x76 0xE1 7 true, .write 0x76 0xF4 [0x27] true]) := by decide +kernel

/-- Vector F3: the phase is checked before the operand. -/
theorem test_init_phase_before_operand : exec (.init 0) calibrated = .next { calibrated with status := .sequenceError } :=
  rfl

/-- The worked example of R90. -/
theorem test_sample_commits :
    (nextOf (step (State.withFetchWord { compensable with answers := sampleAnswers } 8 0x20))).map
      (fun t => (t.raw, t.tfValid, t.phase, t.status, t.trace)) =
    some (⟨415148, 519888, 30000⟩, false, .sampling, .ok,
      [.write 0x76 0xF2 [0x01] true, .write 0x76 0xF4 [0x25] true, .wait 16200, .read 0x76 0xF7 8 true]) := by
  decide +kernel

/-- Vector F8: the burst read fails in Sampling with `TF_VALID` = 1. -/
theorem test_sample_bus_error :
    (nextOf (exec .sample { compensable with answers := [.ack [], .ack [], .fail] })).map
      (fun t => (t.raw, t.tfValid, t.phase, t.status)) =
    some (⟨415148, 519888, 30000⟩, false, .calibrated, .busError) := by decide +kernel

/-- Vector T5: a shift of a negative value floors. -/
theorem test_compt_floor :
    (nextOf (exec .compt { sampling with raw := ⟨0, 440063, 0⟩ })).map
      (fun t => (t.tFine, t.temp, t.tfValid, t.phase)) = some (-13, 0, true, .sampling) := by decide +kernel

/-- Vector T9: the minimum. -/
theorem test_compt_minimum :
    (nextOf (exec .compt { sampling with
      cal := { exTrims with t1 := 65535, t2 := 32767, t3 := -32768 }, raw := ⟨0, 0, 0⟩ })).map
      (fun t => (t.tFine, t.temp)) = some (-4194145, -81917) := by decide +kernel

/-- Vector P3b: truncation of a negative quotient, and what the floor gives. -/
theorem test_compp_truncates :
    (nextOf (exec .compp { compensable with raw := ⟨1040777, 519888, 30000⟩ })).map (·.press) = some (-1365795) ∧
    (nextOf (exec .compp { compensable with
      raw := ⟨1040777, 519888, 30000⟩
      config := { Config.vendorDefault with divRound := .floor } })).map (·.press) = some (-1365796) := by decide +kernel

/-- Vector P6: a small negative product gives the denominator -1, not the guard. -/
theorem test_compp_negative_denominator :
    (nextOf (exec .compp { compensable with
      tFine := 1176577
      cal := { Calibration.zero with p1 := 1, p2 := -32768 }
      raw := ⟨1048575, 0, 0⟩ })).map (fun t => (t.press, t.tfValid, t.phase)) =
    some (-26214400000, true, .sampling) := by decide +kernel

/-- Vector H1, the worked example of R110. -/
theorem test_comph_example :
    (nextOf (exec .comph compensable)).map (fun t => (t.hum, t.tfValid, t.phase, t.status)) =
    some (61519, false, .calibrated, .ok) := by decide +kernel

/-- R111: the clamp above, at ADC_H = 65535. -/
theorem test_comph_clamped :
    (nextOf (exec .comph { compensable with raw := ⟨0, 0, 65535⟩ })).map (·.hum) = some 102400 := by decide +kernel

/-- A register that nothing has written is not observed; one that holds a value is (R24, U5). -/
theorem test_observe :
    observe State.reset .press = none ∧ observe compensable .tFine = some 128422 ∧ observe compensable .hum = none := by
  decide +kernel

/-- `core` is the machine of these files. -/
theorem test_core : Sys2Proof.core.step = Machine.step ∧ Sys2Proof.core.reset = State.reset := ⟨rfl, rfl⟩

/-! ### Witnesses: the hypotheses of every statement that has some are met together -/

theorem witness_CommandStepRunsDecodedInstr :
    ∃ (s : State) (w : Byte) (rest : List HostInput) (i : Instr),
      s.inputs = .command w :: rest ∧ decode w = .ok i :=
  ⟨presented 0x17 calibrated, 0x17, [], .init 7, rfl, rfl⟩

/-- One word under each clause of the illegal words, the boundary opcodes among them; and a legal one. -/
theorem witness_IllegalWordsWriteStatusOnly :
    (0x0F : Byte).toNat / 16 = 0 ∧ 6 ≤ (0x60 : Byte).toNat / 16 ∧ 6 ≤ (0xFF : Byte).toNat / 16 ∧
    (0x18 : Byte).toNat / 8 % 2 = 1 ∧ ((0x21 : Byte).toNat % 8 ≠ 0 ∧ (0x21 : Byte).toNat / 16 ≠ 1) ∧
    ((0x57 : Byte).toNat % 8 ≠ 0 ∧ (0x57 : Byte).toNat / 16 ≠ 1) ∧
    ¬((0x17 : Byte).toNat / 16 = 0 ∨ 6 ≤ (0x17 : Byte).toNat / 16 ∨ (0x17 : Byte).toNat / 8 % 2 = 1 ∨
      (0x17 : Byte).toNat % 8 ≠ 0 ∧ (0x17 : Byte).toNat / 16 ≠ 1) ∧
    (presented 0x21 State.reset).inputs = .command 0x21 :: [] := by decide

theorem witness_DecodeAndEncodeAgree :
    (Instr.init 0).wf = true ∧ (Instr.init 7).wf = true ∧ Instr.comph.wf = true ∧ decode 0x40 = .ok .compp :=
  ⟨rfl, rfl, rfl, rfl⟩

theorem witness_AllEightOperandsDecodeAsInit : (0x10 : Byte).toNat / 8 = 2 ∧ (0x17 : Byte).toNat / 8 = 2 := by decide

theorem witness_InitCommitsCalibration :
    ∃ s : State, s.phase = .uninitialized ∧ busOk s 0 = true ∧ busOk s 1 = true ∧ busOk s 2 = true ∧
      (1 ≤ 1 ∧ 1 ≤ 5 ∧ 1 ≤ 5 ∧ 5 ≤ 5) :=
  ⟨fresh initAnswers, by decide⟩

/-- The hypotheses, with a state for each of the three traces. -/
theorem witness_InitBusTransactionsInOrder :
    (∃ s : State, s.phase = .uninitialized ∧ busOk s 0 = false) ∧
    (∃ s : State, s.phase = .uninitialized ∧ busOk s 0 = true ∧ busOk s 1 = false) ∧
    (∃ s : State, s.phase = .uninitialized ∧ busOk s 0 = true ∧ busOk s 1 = true) :=
  ⟨⟨fresh [.fail], by decide⟩, ⟨fresh [.ack blockA, .fail], by decide⟩, ⟨fresh initAnswers, by decide⟩⟩

theorem witness_SecondInitRefused : calibrated.phase ≠ .uninitialized ∧ sampling.phase ≠ .uninitialized := by decide

theorem witness_InitIllegalModeRefused :
    State.reset.phase = .uninitialized ∧ ∀ osr ∈ [0, 6, 7], osr = 0 ∨ osr = 6 ∨ osr = 7 := by decide

theorem witness_InitBusErrorLeavesRegisters :
    (∃ s : State, s.phase = .uninitialized ∧ busOk s 0 = false) ∧
    (∃ s : State, s.phase = .uninitialized ∧ busOk s 0 = true ∧ busOk s 1 = false) ∧
    (∃ s : State, s.phase = .uninitialized ∧ busOk s 0 = true ∧ busOk s 1 = true ∧ busOk s 2 = false) :=
  ⟨⟨fresh [.fail], by decide⟩, ⟨fresh [.ack blockA, .fail], by decide⟩,
    ⟨fresh [.ack blockA, .ack blockB, .fail], by decide⟩⟩

/-- In both phases that admit SAMPLE. -/
theorem witness_SampleCommitsRawSample :
    (∃ s : State, s.phase = .calibrated ∧ s.phase ≠ .uninitialized ∧
      busOk s 0 = true ∧ busOk s 1 = true ∧ busOk s 2 = true) ∧
    (∃ s : State, s.phase = .sampling ∧ s.phase ≠ .uninitialized ∧
      busOk s 0 = true ∧ busOk s 1 = true ∧ busOk s 2 = true) :=
  ⟨⟨{ calibrated with answers := sampleAnswers }, by decide⟩, ⟨{ sampling with answers := sampleAnswers }, by decide⟩⟩

/-- A state for each of the three traces. -/
theorem witness_SampleBusTransactionsInOrder :
    (∃ s : State, s.phase ≠ .uninitialized ∧ busOk s 0 = false) ∧
    (∃ s : State, s.phase ≠ .uninitialized ∧ busOk s 0 = true ∧ busOk s 1 = false) ∧
    (∃ s : State, s.phase ≠ .uninitialized ∧ busOk s 0 = true ∧ busOk s 1 = true) :=
  ⟨⟨{ calibrated with answers := [.fail] }, by decide⟩, ⟨{ calibrated with answers := [.ack [], .fail] }, by decide⟩,
    ⟨{ calibrated with answers := sampleAnswers }, by decide⟩⟩

theorem witness_SampleAdmission :
    State.reset.phase = .uninitialized ∧
    (∃ s : State, s.phase = .calibrated ∧ busOk s 0 = true ∧ busOk s 1 = true ∧ busOk s 2 = true) ∧
    (∃ s : State, s.phase = .sampling ∧ busOk s 0 = false) :=
  ⟨rfl, ⟨{ calibrated with answers := sampleAnswers }, by decide⟩, ⟨{ compensable with answers := [.fail] }, by decide⟩⟩

theorem witness_SampleBusErrorClosesCycle :
    (∃ s : State, s.phase ≠ .uninitialized ∧ busOk s 0 = false) ∧
    (∃ s : State, s.phase ≠ .uninitialized ∧ busOk s 0 = true ∧ busOk s 1 = false) ∧
    (∃ s : State, s.phase ≠ .uninitialized ∧ busOk s 0 = true ∧ busOk s 1 = true ∧ busOk s 2 = false) :=
  ⟨⟨{ calibrated with answers := [.fail] }, by decide⟩, ⟨{ sampling with answers := [.ack [], .fail] }, by decide⟩,
    ⟨{ compensable with answers := [.ack [], .ack [], .fail] }, by decide⟩⟩

/-- A step that makes a burst read: it is event 3 of what the step adds. -/
theorem witness_BurstReadOnlyAfterSettleWait :
    ∃ (s t : State) (added : List BusEvent), step s = .next t ∧ t.trace = s.trace ++ added ∧
      added[3]? = some (readBurst s true) :=
  ⟨presented 0x20 { calibrated with answers := sampleAnswers }, _,
    [.write 0x76 0xF2 [0x01] true, .write 0x76 0xF4 [0x25] true, .wait 16200, .read 0x76 0xF7 8 true],
    rfl, by decide, by decide⟩

theorem witness_ComptComputesTemperature : sampling.phase = .sampling ∧ calibrated.phase ≠ .sampling := by decide

/-- Admitted, and refused for each of the two reasons. -/
theorem witness_ComppComputesPressure :
    (compensable.phase = .sampling ∧ compensable.tfValid = true) ∧
    ¬(sampling.phase = .sampling ∧ sampling.tfValid = true) ∧
    ¬(calibrated.phase = .sampling ∧ calibrated.tfValid = true) := by decide

/-- Vector P5: the guard taken with `P1 ≠ 0`; and vector P4's cause, `P1 = 0`. -/
theorem witness_ComppZeroDenominatorGuard :
    let s : State := { compensable with tFine := 1176576, cal := { exTrims with p2 := -32768, p3 := 0 } }
    s.phase = .sampling ∧ s.tfValid = true ∧
    Int.fdiv (((2 : Int) ^ 47 + (Int.fdiv ((s.tFine - 128000) * (s.tFine - 128000) * s.cal.p3.toInt) (2 ^ 8) +
      (s.tFine - 128000) * s.cal.p2.toInt * 2 ^ 12)) * (s.cal.p1.toNat : Int)) (2 ^ 33) = 0 ∧
    (exec .compp s = .next { s with press := 0, status := .ok, written := { s.written with press := true } }) :=
  ⟨rfl, rfl, by decide +kernel, rfl⟩

theorem witness_PressureDivisionRounding :
    (2 : Int) ≠ 0 ∧ roundDiv .trunc (-7) 2 = -3 ∧ roundDiv .floor (-7) 2 = -4 ∧ roundDiv .trunc 7 (-2) = -3 := by decide

theorem witness_ComphComputesHumidity :
    (compensable.phase = .sampling ∧ compensable.tfValid = true) ∧
    ¬(sampling.phase = .sampling ∧ sampling.tfValid = true) := by decide

/-- The values of R111 on both sides of each bound. -/
theorem witness_HumidityAlwaysClamped :
    (-1 : Int) < 0 ∧ (419430400 : Int) < 419430401 ∧ (0 : Int) ≤ 0 ∧ (419430400 : Int) ≤ 419430400 ∧
    clampHumidity (-1) = 0 ∧ clampHumidity 419430401 = 419430400 ∧ clampHumidity 419430400 = 419430400 := by decide

/-- Two different states that agree on what the operation reads. -/
theorem witness_CompensationReadsOnlyItsRegisters :
    (∃ s s' t t' : State, s ≠ s' ∧ s.phase = s'.phase ∧ exec .compt s = .next t ∧ exec .compt s' = .next t' ∧
      s.raw.adcT = s'.raw.adcT ∧ s.cal.t1 = s'.cal.t1 ∧ s.cal.t2 = s'.cal.t2 ∧ s.cal.t3 = s'.cal.t3 ∧ t.status = .ok) ∧
    (∃ s s' t t' : State, s ≠ s' ∧ s.phase = s'.phase ∧ s.tfValid = s'.tfValid ∧ exec .compp s = .next t ∧
      exec .compp s' = .next t' ∧ s.config.divRound = s'.config.divRound ∧ s.raw.adcP = s'.raw.adcP ∧
      s.tFine = s'.tFine ∧ s.cal = s'.cal ∧ t.status = .ok) ∧
    (∃ s s' t t' : State, s ≠ s' ∧ s.phase = s'.phase ∧ s.tfValid = s'.tfValid ∧ exec .comph s = .next t ∧
      exec .comph s' = .next t' ∧ s.raw.adcH = s'.raw.adcH ∧ s.tFine = s'.tFine ∧ s.cal = s'.cal ∧ t.status = .ok) :=
  ⟨⟨sampling, { sampling with press := 1 }, _, _, by decide, rfl, rfl, rfl, rfl, rfl, rfl, rfl, rfl⟩,
    ⟨compensable, { compensable with hum := 1 }, _, _, by decide, rfl, rfl, rfl, rfl, rfl, rfl, rfl, rfl, rfl⟩,
    ⟨compensable, { compensable with press := 1 }, _, _, by decide, rfl, rfl, rfl, rfl, rfl, rfl, rfl, rfl⟩⟩

/-- The two ends of T_FINE's range. -/
theorem witness_ComppDenominatorRanges :
    ((-4194224 : Int) ≤ -4194224 ∧ (-4194224 : Int) ≤ 4194144) ∧ (-4194224 : Int) ≤ 4194144 ∧ (4194144 : Int) ≤ 4194144 := by
  decide

theorem witness_ComphIntermediateRanges :
    ((-4194224 : Int) ≤ -4194224 ∧ (-4194224 : Int) ≤ 4194144) ∧ (-4194224 : Int) ≤ 4194144 ∧ (4194144 : Int) ≤ 4194144 := by
  decide

/-- A step that ends with each of the three codes. -/
theorem witness_RefusalsChangeStatusOnly :
    (∃ t, step (presented 0x20 State.reset) = .next t ∧ t.status = .sequenceError) ∧
    (∃ t, step (presented 0x10 State.reset) = .next t ∧ t.status = .configurationError) ∧
    (∃ t, step (presented 0x21 State.reset) = .next t ∧ t.status = .illegalCommand) :=
  ⟨⟨_, rfl, rfl⟩, ⟨_, rfl, rfl⟩, ⟨_, rfl, rfl⟩⟩

/-- A command for each of the five outcomes; the first three have several causes at once. -/
theorem witness_StatusReportsFirstCause :
    (∃ t, step (presented 0x28 State.reset) = .next t ∧ t.status = .illegalCommand) ∧
    (∃ t, step (presented 0x10 calibrated) = .next t ∧ t.status = .sequenceError) ∧
    (∃ t, step (presented 0x17 (fresh [.fail])) = .next t ∧ t.status = .configurationError) ∧
    (∃ t, step (presented 0x11 (fresh [.fail])) = .next t ∧ t.status = .busError) ∧
    (∃ t, step (presented 0x50 compensable) = .next t ∧ t.status = .ok) :=
  ⟨⟨_, rfl, rfl⟩, ⟨_, rfl, rfl⟩, ⟨_, rfl, rfl⟩, ⟨_, rfl, rfl⟩, ⟨_, rfl, rfl⟩⟩

/-- The three clauses about steps. -/
theorem witness_PhaseTransitionTable :
    (∃ t, exec .comph compensable = .next t ∧ t.phase = .calibrated) ∧
    (∃ t, decode 0x00 = .error .opcode ∧ step (presented 0x00 sampling) = .next t ∧ t.phase = .sampling) ∧
    (∃ t, step { sampling with inputs := [.reset] } = .next t ∧ t.phase = .uninitialized) :=
  ⟨⟨_, rfl, rfl⟩, ⟨_, rfl, rfl, rfl⟩, ⟨_, rfl, rfl⟩⟩

/-- Each writer of TF_VALID, and an operation that leaves it. -/
theorem witness_TfValidWriters :
    (∃ t, exec .compt sampling = .next t ∧ t.tfValid = true) ∧
    (∃ t, exec .sample { compensable with answers := [.fail] } = .next t ∧ t.tfValid = false) ∧
    (∃ t, exec .comph compensable = .next t ∧ t.tfValid = false) ∧
    (∃ t, exec .compp compensable = .next t ∧ t.tfValid = true) :=
  ⟨⟨_, rfl, rfl⟩, ⟨_, rfl, rfl⟩, ⟨_, rfl, rfl⟩, ⟨_, rfl, rfl⟩⟩

/-- A step of each of the two kinds that change the trims. -/
theorem witness_CalibrationImmutableAfterInit :
    (∃ s t : State, step s = .next t ∧ t.cal ≠ s.cal ∧ s.inputs = .reset :: []) ∧
    (∃ s t : State, step s = .next t ∧ t.cal ≠ s.cal ∧ s.inputs = .command 0x11 :: []) :=
  ⟨⟨{ calibrated with inputs := [.reset] }, _, rfl, by decide, rfl⟩,
    ⟨presented 0x11 (fresh initAnswers), _, rfl, by decide +kernel, rfl⟩⟩

/-- One operation of each kind answers a next state. -/
theorem witness_FrameOfTheFiveOperations :
    (∃ t, exec (.init 1) (fresh initAnswers) = .next t) ∧
    (∃ t, exec .sample { calibrated with answers := sampleAnswers } = .next t) ∧
    (∃ t, exec .compt sampling = .next t) ∧ (∃ t, exec .compp compensable = .next t) ∧
    (∃ t, exec .comph compensable = .next t) :=
  ⟨⟨_, rfl⟩, ⟨_, rfl⟩, ⟨_, rfl⟩, ⟨_, rfl⟩, ⟨_, rfl⟩⟩

/-- The same five, each with the number of events it adds. -/
theorem witness_OnlyTheSixAccesses :
    (∃ t, exec (.init 1) (fresh initAnswers) = .next t ∧ t.trace.length = 3) ∧
    (∃ t, exec .sample { calibrated with answers := sampleAnswers } = .next t ∧ t.trace.length = 4) ∧
    (∃ t, exec .compp compensable = .next t ∧ t.trace.length = 0) :=
  ⟨⟨_, rfl, rfl⟩, ⟨_, rfl, rfl⟩, ⟨_, rfl, rfl⟩⟩

theorem witness_ConfigurationNeverWritten : ∃ t, step { compensable with inputs := [.reset] } = .next t := ⟨_, rfl⟩

theorem witness_ResetStartsNewInstance : State.inputs { compensable with inputs := [.reset] } = .reset :: [] := rfl

/-- For a refused and for an admitted operation: two states that differ only behind registers that hold no value. -/
theorem witness_UnwrittenRegistersNeverRead :
    (∃ s s' t t' : State, s ≠ s' ∧ Lifecycle s ∧ Lifecycle s' ∧ s.config = s'.config ∧ s.inputs = s'.inputs ∧
      s.answers = s'.answers ∧ s.busCount = s'.busCount ∧ s.trace = s'.trace ∧ (∀ r : Reg, observe s r = observe s' r) ∧
      exec .sample s = .next t ∧ exec .sample s' = .next t') ∧
    (∃ s s' t t' : State, s ≠ s' ∧ Lifecycle s ∧ Lifecycle s' ∧ s.config = s'.config ∧ s.inputs = s'.inputs ∧
      s.answers = s'.answers ∧ s.busCount = s'.busCount ∧ s.trace = s'.trace ∧ (∀ r : Reg, observe s r = observe s' r) ∧
      exec .compt s = .next t ∧ exec .compt s' = .next t' ∧ t.status = .ok) :=
  ⟨⟨State.reset, { State.reset with osr := 5, press := 7 }, _, _, by decide, by decide, by decide, rfl, rfl, rfl, rfl, rfl,
      observe_agree_iff.2 (by decide), rfl, rfl⟩,
    ⟨sampling, { sampling with tFine := 1, press := 7 }, _, _, by decide, by decide, by decide, rfl, rfl, rfl, rfl, rfl,
      observe_agree_iff.2 (by decide), rfl, rfl, rfl⟩⟩

/-- Each of the two ways T_FINE goes stale. -/
theorem witness_StaleTFineNeverRead :
    (∃ s t : State, s.phase ≠ .uninitialized ∧ exec .sample s = .next t) ∧
    (∃ s t : State, s.phase = .sampling ∧ s.tfValid = true ∧ exec .comph s = .next t) :=
  ⟨⟨{ compensable with answers := [.fail] }, _, by decide, rfl⟩, ⟨compensable, _, rfl, rfl, rfl⟩⟩

theorem witness_EveryStepKeepsLifecycle : ∃ t, Lifecycle compensable ∧ step (presented 0x50 compensable) = .next t ∧
    Lifecycle (presented 0x50 compensable) := ⟨_, by decide, rfl, by decide⟩

/-- With `TF_VALID` = 1, so that the invariant is not empty. -/
theorem witness_EveryStepKeepsTFineFresh :
    ∃ s t : State, s.tfValid = true ∧ Lifecycle s ∧ FreshTFine s ∧ step s = .next t :=
  ⟨presented 0x40 compensable, _, rfl, by decide, by decide +kernel, rfl⟩

theorem witness_EveryStepKeepsRanges : ∃ s t : State, InRange s ∧ step s = .next t :=
  ⟨presented 0x30 compensable, _, by decide, rfl⟩

/-- A reached state that is not reset. -/
theorem witness_ReachableStatesMeetInvariants : ∃ s : State, Reachable s ∧ s.phase = .calibrated :=
  ⟨_, .step (.start (s := presented 0x11 (fresh initAnswers)) rfl) rfl, rfl⟩

/-- From both phases in which POLL starts. -/
theorem witness_PollEndsCalibrated :
    (∃ s : State, s.phase = .calibrated ∧ s.phase ≠ .uninitialized ∧
      busOk s 0 = true ∧ busOk s 1 = true ∧ busOk s 2 = true) ∧
    (∃ s : State, s.phase = .sampling ∧ s.phase ≠ .uninitialized ∧
      busOk s 0 = true ∧ busOk s 1 = true ∧ busOk s 2 = true) :=
  ⟨⟨{ calibrated with answers := sampleAnswers }, by decide⟩, ⟨{ sampling with answers := sampleAnswers }, by decide⟩⟩

/-- Program G1's inputs and answers. -/
theorem witness_BootAndPollRunWithoutFault :
    ∃ s : State, Started s ∧
      s.inputs = [.command (encode (.init 1)), .command 0x20, .command 0x30, .command 0x40, .command 0x50] ++ [] ∧
      ∀ k, k < 6 → busOk s k = true :=
  ⟨{ fresh (initAnswers ++ sampleAnswers) with
      inputs := [.command 0x11, .command 0x20, .command 0x30, .command 0x40, .command 0x50] }, rfl, rfl, by decide⟩

/-- COMP both ways: refused in Calibrated, complete in Sampling; and an operation that faults and one that does not, before a
COMPT that would leave another STATUS. -/
theorem witness_CompStopsAtFirstFault :
    calibrated.phase ≠ .sampling ∧ sampling.phase = .sampling ∧
    (∃ t, exec .sample { sampling with answers := [.fail] } = .next t ∧ t.status = .busError ∧
      ∃ u, exec .compt t = .next u ∧ u.status = .sequenceError) ∧
    (∃ t, exec .compt sampling = .next t ∧ t.status = .ok) :=
  ⟨by decide, rfl, ⟨_, rfl, rfl, _, rfl, rfl⟩, ⟨_, rfl, rfl⟩⟩

/-- Freezing point at saturation; and a humidity at which `k = 17.62`. -/
theorem witness_DewPointMagnus :
    ((0 : ℝ) < 100 ∧ (243.12 : ℝ) + 0 ≠ 0 ∧ Real.log (100 / 100) + 17.62 * 0 / (243.12 + 0) ≠ 17.62) ∧
    ∃ rH : ℝ, 0 < rH ∧ (243.12 : ℝ) + 0 ≠ 0 ∧ Real.log (rH / 100) + 17.62 * 0 / (243.12 + 0) = 17.62 := by
  refine ⟨by norm_num, 100 * Real.exp 17.62, by positivity, by norm_num, ?_⟩
  rw [mul_div_cancel_left₀ _ (by norm_num), Real.log_exp]
  norm_num

theorem witness_DewPointDegenerate : (0 : ℝ) ≤ 0 ∧ (-1 : ℝ) ≤ 0 := by norm_num

/-- The boundary altitude, and one above it. -/
theorem witness_NormalizedPressure : (44330 : ℝ) ≤ 44330 ∧ (44330 : ℝ) < 44331 := by norm_num

/-- POLL with a fault, and without; and SAMPLE admitted with each of its transactions failing. -/
theorem witness_GetValuesFollowsPoll :
    (∃ t, runUntilFault Instr.pseudoPoll State.reset = .next t ∧ t.status ≠ .ok) ∧
    (∃ t, runUntilFault Instr.pseudoPoll { calibrated with answers := sampleAnswers } = .next t ∧ t.status = .ok) ∧
    (∃ s : State, s.phase ≠ .uninitialized ∧ busOk s 0 = false) ∧
    (∃ s : State, s.phase ≠ .uninitialized ∧ busOk s 1 = false) ∧
    (∃ s : State, s.phase ≠ .uninitialized ∧ busOk s 2 = false) :=
  ⟨⟨_, rfl, by decide⟩, ⟨_, rfl, by decide +kernel⟩, ⟨{ calibrated with answers := [.fail] }, by decide⟩,
    ⟨{ sampling with answers := [.ack [], .fail] }, by decide⟩,
    ⟨{ compensable with answers := [.ack [], .ack [], .fail] }, by decide⟩⟩

theorem witness_HostObservesCalibrationAfterInit :
    ∃ s : State, s.phase = .uninitialized ∧ busOk s 0 = true ∧ busOk s 1 = true ∧ busOk s 2 = true ∧
      (1 ≤ 1 ∧ 1 ≤ 5 ∧ 1 ≤ 5 ∧ 5 ≤ 5) :=
  ⟨fresh initAnswers, by decide⟩

/-- A state for each of the four operations. -/
theorem witness_HostObservesSampleAndResults :
    (∃ s : State, s.phase ≠ .uninitialized ∧ busOk s 0 = true ∧ busOk s 1 = true ∧ busOk s 2 = true) ∧
    sampling.phase = .sampling ∧ (compensable.phase = .sampling ∧ compensable.tfValid = true) :=
  ⟨⟨{ calibrated with answers := sampleAnswers }, by decide⟩, by decide⟩

/-- Vectors U1 and U2 as the host observes them: an unsigned trim with its top bit set, and three negative ones. -/
theorem test_observe_after_init :
    (nextOf (exec (.init 1) (fresh initAnswers))).map
      (fun t => [observe t .p1, observe t .p2, observe t .t3, observe t .p8, observe t .h4, observe t .adcP]) =
    some [some 36477, some (-10685), some (-1000), some (-14600), some 301, none] := by decide +kernel

end Sys2Proof.Tests
end

section
/-! The five operations and the step, as far as PHASE, the calibration and the parameters go (`10_state.md` R27, R28,
R32): each fact is read off the inversion lemmas of `Laws/Meanings.lean` once, and the obligations cite the facts. -/

namespace Sys2Proof.Machine

open Sys2Proof.Claims

variable {s t : State} {i : Instr} {osr : Nat}

/-! ### The step on a reset and on an illegal word -/

theorem step_of_reset {rest : List HostInput} (hi : s.inputs = .reset :: rest) :
    step s = .next (resetBlock (takeInput s)) := by
  simp [step, hi]

theorem step_of_decode_error {w : Byte} {r : IllegalWord} {rest : List HostInput}
    (hi : s.inputs = .command w :: rest) (hd : decode w = .error r) :
    step s = .next (raise .illegalCommand (takeInput s)) := by
  simp [step, hi, hd]

/-! ### The parameters -/

theorem execInit_config (h : execInit osr s = .next t) : t.config = s.config := by
  obtain ⟨_, rfl⟩ | ⟨_, _, rfl⟩ |
    ⟨_, _, ⟨_, rfl⟩ | ⟨_, _, rfl⟩ | ⟨_, _, _, rfl⟩ | ⟨_, _, _, rfl⟩⟩ := execInit_cases h <;> simp

theorem execSample_config (h : execSample s = .next t) : t.config = s.config := by
  obtain ⟨_, rfl⟩ | ⟨_, ⟨_, rfl⟩ | ⟨_, _, rfl⟩ | ⟨_, _, _, rfl⟩ | ⟨_, _, _, rfl⟩⟩ := execSample_cases h <;> simp

/-- No operation writes the parameters (R27). -/
theorem exec_config (h : exec i s = .next t) : t.config = s.config := by
  cases i with
  | init osr => exact execInit_config h
  | sample => exact execSample_config h
  | compt => obtain ⟨_, rfl⟩ | ⟨_, rfl⟩ := execCompt_cases h <;> rfl
  | compp => obtain ⟨_, rfl⟩ | ⟨_, rfl⟩ := execCompp_cases h <;> rfl
  | comph => obtain ⟨_, rfl⟩ | ⟨_, rfl⟩ := execComph_cases h <;> rfl

/-- Settles O41: the four things a step can do each leave the parameters, an operation by `exec_config`. -/
theorem configurationNeverWritten : Obligations.ConfigurationNeverWritten := by
  intro s t h
  obtain ⟨_, rfl⟩ | ⟨_, _, rfl⟩ | ⟨_, _, _, _, _, rfl⟩ | ⟨_, _, _, _, _, he⟩ := step_cases h
  · rfl
  · simp
  · simp
  · exact (exec_config he).trans (takeInput_config s)

/-! ### The calibration -/

/-- The trims, OSR and their validity are in `t` what they are in `s`. -/
def SameCalibration (s t : State) : Prop :=
  t.cal = s.cal ∧ t.osr = s.osr ∧ t.written.calibration = s.written.calibration

/-- Taking an input touches no register (R60). -/
@[simp] theorem sameCalibration_takeInput : SameCalibration (takeInput s) t ↔ SameCalibration s t := Iff.rfl

theorem execSample_sameCalibration (h : execSample s = .next t) : SameCalibration s t := by
  obtain ⟨_, rfl⟩ | ⟨_, ⟨_, rfl⟩ | ⟨_, _, rfl⟩ | ⟨_, _, _, rfl⟩ | ⟨_, _, _, rfl⟩⟩ := execSample_cases h <;>
    simp [SameCalibration]

/-- No operation but INIT writes the calibration (R32). -/
theorem exec_sameCalibration (hi : ∀ osr, i ≠ .init osr) (h : exec i s = .next t) : SameCalibration s t := by
  cases i with
  | init osr => exact absurd rfl (hi osr)
  | sample => exact execSample_sameCalibration h
  | compt => obtain ⟨_, rfl⟩ | ⟨_, rfl⟩ := execCompt_cases h <;> exact ⟨rfl, rfl, rfl⟩
  | compp => obtain ⟨_, rfl⟩ | ⟨_, rfl⟩ := execCompp_cases h <;> exact ⟨rfl, rfl, rfl⟩
  | comph => obtain ⟨_, rfl⟩ | ⟨_, rfl⟩ := execComph_cases h <;> exact ⟨rfl, rfl, rfl⟩

/-- INIT leaves the calibration, or it was issued in Uninitialized and succeeds (R32, R85, R86). -/
theorem execInit_sameCalibration_or_succeeds (h : execInit osr s = .next t) :
    SameCalibration s t ∨ (s.phase = .uninitialized ∧ t.status = .ok ∧ t.phase = .calibrated) := by
  obtain ⟨_, rfl⟩ | ⟨_, _, rfl⟩ |
    ⟨hp, _, ⟨_, rfl⟩ | ⟨_, _, rfl⟩ | ⟨_, _, _, rfl⟩ | ⟨_, _, _, rfl⟩⟩ := execInit_cases h
  case inr.inr.inr.inr.inr => exact .inr ⟨hp, rfl, rfl⟩
  all_goals simp [SameCalibration]

/-- A step leaves the calibration, or it is a reset, or a successful INIT in Uninitialized (R32). -/
theorem step_sameCalibration_or_writer (h : step s = .next t) :
    SameCalibration s t ∨ (∃ rest, s.inputs = .reset :: rest) ∨
    (∃ w rest osr, s.inputs = .command w :: rest ∧ decode w = .ok (.init osr) ∧ s.phase = .uninitialized ∧
      t.status = .ok ∧ t.phase = .calibrated) := by
  obtain ⟨_, rfl⟩ | ⟨rest, hin, _⟩ | ⟨_, _, _, _, _, rfl⟩ | ⟨w, rest, i, hin, hd, he⟩ := step_cases h
  · exact .inl ⟨rfl, rfl, rfl⟩
  · exact .inr (.inl ⟨rest, hin⟩)
  · exact .inl ⟨rfl, rfl, rfl⟩
  · by_cases hinit : ∃ osr, i = .init osr
    · obtain ⟨osr, rfl⟩ := hinit
      obtain hsame | hdone := execInit_sameCalibration_or_succeeds he
      · exact .inl (sameCalibration_takeInput.1 hsame)
      · exact .inr (.inr ⟨w, rest, osr, hin, hd, hdone⟩)
    · exact .inl (sameCalibration_takeInput.1 (exec_sameCalibration (not_exists.1 hinit) he))

/-- Settles O38: the first case of `step_sameCalibration_or_writer` changes nothing, the other two are the writers. -/
theorem calibrationImmutableAfterInit : Obligations.CalibrationImmutableAfterInit := by
  intro s t h hchanged
  obtain ⟨hcal, hosr, hwritten⟩ | hwriter := step_sameCalibration_or_writer h
  · simp [hcal, hosr, hwritten] at hchanged
  · exact hwriter

/-! ### PHASE -/

theorem phaseCode_ne_three (p : Phase) : phaseCode p ≠ 3 := by
  cases p <;> decide

/-- A refused operation leaves PHASE (R136). -/
@[simp] theorem phaseAfter_sequenceError (i : Instr) (p : Phase) : phaseAfter i p .sequenceError = p := by
  cases i <;> cases p <;> rfl

@[simp] theorem phaseAfter_init_configurationError (osr : Nat) (p : Phase) :
    phaseAfter (.init osr) p .configurationError = p := by
  cases p <;> rfl

@[simp] theorem phaseAfter_init_busError (osr : Nat) (p : Phase) : phaseAfter (.init osr) p .busError = p := by
  cases p <;> rfl

theorem phaseAfter_sample_busError {p : Phase} (hp : p ≠ .uninitialized) :
    phaseAfter .sample p .busError = .calibrated := by
  cases p with
  | uninitialized => exact absurd rfl hp
  | calibrated | sampling => rfl

theorem phaseAfter_sample_ok {p : Phase} (hp : p ≠ .uninitialized) : phaseAfter .sample p .ok = .sampling := by
  cases p with
  | uninitialized => exact absurd rfl hp
  | calibrated | sampling => rfl

theorem execInit_phase (h : execInit osr s = .next t) : t.phase = phaseAfter (.init osr) s.phase t.status := by
  obtain ⟨_, rfl⟩ | ⟨_, _, rfl⟩ |
    ⟨hp, _, ⟨_, rfl⟩ | ⟨_, _, rfl⟩ | ⟨_, _, _, rfl⟩ | ⟨_, _, _, rfl⟩⟩ := execInit_cases h
  case inr.inr.inr.inr.inr => simp [hp, phaseAfter]
  all_goals simp

theorem execSample_phase (h : execSample s = .next t) : t.phase = phaseAfter .sample s.phase t.status := by
  obtain ⟨_, rfl⟩ | ⟨hp, ⟨_, rfl⟩ | ⟨_, _, rfl⟩ | ⟨_, _, _, rfl⟩ | ⟨_, _, _, rfl⟩⟩ := execSample_cases h
  · simp
  case inr.inr.inr.inr => simp [phaseAfter_sample_ok hp]
  all_goals simp [phaseAfter_sample_busError hp]

/-- Every operation leaves PHASE as the transition table says (R28). -/
theorem exec_phase (h : exec i s = .next t) : t.phase = phaseAfter i s.phase t.status := by
  cases i with
  | init osr => exact execInit_phase h
  | sample => exact execSample_phase h
  | compt => obtain ⟨_, rfl⟩ | ⟨_, rfl⟩ := execCompt_cases h <;> rfl
  | compp => obtain ⟨_, rfl⟩ | ⟨_, rfl⟩ := execCompp_cases h <;> rfl
  | comph =>
    obtain ⟨_, rfl⟩ | ⟨⟨hp, _⟩, rfl⟩ := execComph_cases h
    · simp
    · simp [hp, phaseAfter]

/-- Settles O36: the table by `exec_phase`; an illegal word and a reset by what the step does on them. -/
theorem phaseTransitionTable : Obligations.PhaseTransitionTable := by
  refine ⟨⟨rfl, rfl, rfl, phaseCode_ne_three⟩, fun i s t h => exec_phase h, ?illegal, ?reset⟩
  case illegal =>
    intro s t w r rest hin hd h
    rw [step_of_decode_error hin hd] at h
    cases h
    simp
  case reset =>
    intro s t rest hin h
    rw [step_of_reset hin] at h
    cases h
    simp

end Sys2Proof.Machine
end

section
/-! The decoder as numbers (`30_encoding.md` R60 to R63, R77): which words decode to which operation, said once. -/

namespace Sys2Proof

/-- `CMD[7:3]` is INIT's opcode with a zero below it (R60, R61). -/
theorem and_initMask_eq_iff (w : Byte) : w &&& 0xF8 = 0x10 ↔ w.toNat / 8 = 2 := by
  revert w
  decide

/-- `CMD[2:0]` as a number (R62). -/
@[simp] theorem osrField_toNat (w : Byte) : (osrField w).toNat = w.toNat % 8 := by
  simp [osrField]

/-- Everything the decoder can answer, with the words that get that answer. -/
theorem decode_cases (w : Byte) :
    (w.toNat / 8 = 2 ∧ decode w = .ok (.init (w.toNat % 8))) ∨
    (w = 0x20 ∧ decode w = .ok .sample) ∨
    (w = 0x30 ∧ decode w = .ok .compt) ∨
    (w = 0x40 ∧ decode w = .ok .compp) ∨
    (w = 0x50 ∧ decode w = .ok .comph) ∨
    ((w.toNat / 8 ≠ 2 ∧ w ≠ 0x20 ∧ w ≠ 0x30 ∧ w ≠ 0x40 ∧ w ≠ 0x50) ∧ decode w = .error (illegalReason w)) := by
  by_cases hinit : w.toNat / 8 = 2
  · exact .inl ⟨hinit, by rw [decode, if_pos ((and_initMask_eq_iff w).2 hinit), osrField_toNat]⟩
  obtain rfl | hsample := eq_or_ne w 0x20
  · exact .inr (.inl ⟨rfl, rfl⟩)
  obtain rfl | hcompt := eq_or_ne w 0x30
  · exact .inr (.inr (.inl ⟨rfl, rfl⟩))
  obtain rfl | hcompp := eq_or_ne w 0x40
  · exact .inr (.inr (.inr (.inl ⟨rfl, rfl⟩)))
  obtain rfl | hcomph := eq_or_ne w 0x50
  · exact .inr (.inr (.inr (.inr (.inl ⟨rfl, rfl⟩))))
  refine .inr (.inr (.inr (.inr (.inr ⟨⟨hinit, hsample, hcompt, hcompp, hcomph⟩, ?_⟩))))
  rw [decode, if_neg (mt (and_initMask_eq_iff w).1 hinit), if_neg hsample, if_neg hcompt, if_neg hcompp,
    if_neg hcomph]

end Sys2Proof

namespace Sys2Proof.Machine

/-- Settles O2: by the six answers of `decode_cases`; only the words of the last one meet R63's condition. -/
theorem illegalWordsWriteStatusOnly : Obligations.IllegalWordsWriteStatusOnly := by
  intro w
  obtain ⟨hw, hd⟩ | ⟨rfl, hd⟩ | ⟨rfl, hd⟩ | ⟨rfl, hd⟩ | ⟨rfl, hd⟩ | ⟨hw, hd⟩ := decode_cases w
  case inr.inr.inr.inr.inr =>
    obtain ⟨hinit, hsample, hcompt, hcompp, hcomph⟩ := hw
    refine ⟨fun _ s rest hi => ?_, fun hlegal => by bv_omega⟩
    rw [step_of_decode_error hi hd]
    simp [raise, takeInput, hi]
  case inl => exact ⟨fun hillegal => by omega, fun _ => ⟨_, hd⟩⟩
  all_goals exact ⟨fun hillegal => absurd hillegal (by decide), fun _ => ⟨_, hd⟩⟩

end Sys2Proof.Machine
end

section
/-! The packed 12-bit values (`30_encoding.md` R66): the assembly taken apart into its fields, and read as a signed
number. -/

namespace Sys2Proof.Machine

/-- A byte and a nibble put together, taken apart again. -/
theorem extractLsb'_append_nibble (msb : Byte) (nibble : BitVec 4) :
    (msb ++ nibble : BitVec (8 + 4)).extractLsb' 4 8 = msb ∧ (msb ++ nibble : BitVec (8 + 4)).extractLsb' 0 4 = nibble := by
  constructor
  · exact BitVec.extractLsb'_append_eq_left
  · exact BitVec.extractLsb'_append_eq_right

/-- Sign-extending 12 assembled bits is sign-extending their upper byte: the nibble has no sign (R66). -/
theorem toInt_of_toNat_eq_byte_nibble {x : BitVec 12} {msb : Byte} {nibble : Nat} (hn : nibble < 16)
    (hx : x.toNat = 16 * msb.toNat + nibble) : x.toInt = 16 * msb.toInt + nibble := by
  rw [BitVec.toInt_eq_toNat_cond, BitVec.toInt_eq_toNat_cond, hx]
  omega

theorem s12Lo_toInt (msb shared : Byte) : (s12Lo msb shared).toInt = 16 * msb.toInt + shared.toNat % 16 := by
  exact_mod_cast toInt_of_toNat_eq_byte_nibble (Nat.mod_lt _ (by decide)) (s12Lo_toNat msb shared)

theorem s12Hi_toInt (msb shared : Byte) : (s12Hi msb shared).toInt = 16 * msb.toInt + shared.toNat / 16 := by
  exact_mod_cast toInt_of_toNat_eq_byte_nibble (Nat.div_lt_of_lt_mul shared.isLt) (s12Hi_toNat msb shared)

/-- R66's first right-hand form of `s12_lo` is the assembly itself. -/
theorem ofNat_eq_s12Lo (msb shared : Byte) :
    BitVec.ofNat 12 (16 * msb.toNat + shared.toNat % 16) = s12Lo msb shared := by
  rw [← s12Lo_toNat, BitVec.ofNat_toNat, BitVec.setWidth_eq]

/-- R66's first right-hand form of `s12_hi` is the assembly itself. -/
theorem ofNat_eq_s12Hi (msb shared : Byte) :
    BitVec.ofNat 12 (16 * msb.toNat + shared.toNat / 16) = s12Hi msb shared := by
  rw [← s12Hi_toNat, BitVec.ofNat_toNat, BitVec.setWidth_eq]

/-- Settles O8: both assemblies are a byte above a nibble, and the numbers of R66 are those assemblies. -/
theorem packedTwelveBitForms : Obligations.PackedTwelveBitForms := by
  intro msb shared
  rw [ofNat_eq_s12Lo, ofNat_eq_s12Hi]
  exact ⟨extractLsb'_append_nibble msb _, extractLsb'_append_nibble msb _,
    s12Lo_toInt msb shared, s12Hi_toInt msb shared, s12Lo_toInt msb shared, s12Hi_toInt msb shared⟩

end Sys2Proof.Machine
end

section
/-! The pseudo-operations (R74, R75): what an operation that is admitted and meets no failure answers, and the expansions
as the composition of those answers. -/

namespace Sys2Proof.Machine

variable {s t : State} {i : Instr}

/-- The state after a SAMPLE that completes (R96). -/
abbrev afterSample (s : State) : State := complete (commitRaw (fun i => busByte s 2 i) (afterBurst true s))

/-- The state after an admitted COMPT (R104). -/
abbrev afterCompt (s : State) : State :=
  complete (writeTemperature (tempCalc s.cal s.raw.adcT).tFine (tempCalc s.cal s.raw.adcT).temp s)

/-- The state after an admitted COMPP (R106). -/
abbrev afterCompp (s : State) : State :=
  complete (writePressure (pressure s.config.divRound s.cal s.raw.adcP s.tFine) s)

/-- The state after an admitted COMPH (R110). -/
abbrev afterComph (s : State) : State := complete (writeHumidity (humCalc s.cal s.raw.adcH s.tFine).hum s)

theorem exec_sample_completes (hp : s.phase ≠ .uninitialized) (h0 : busOk s 0 = true) (h1 : busOk s 1 = true)
    (h2 : busOk s 2 = true) : exec .sample s = .next (afterSample s) := by
  obtain ⟨t, h⟩ : ∃ t, execSample s = .next t := ⟨_, rfl⟩
  have ht : t = afterSample s := by simpa [hp, h0, h1, h2] using execSample_cases h
  exact ht ▸ h

theorem exec_compt_admitted (hp : s.phase = .sampling) : exec .compt s = .next (afterCompt s) := by
  obtain ⟨t, h⟩ : ∃ t, execCompt s = .next t := ⟨_, rfl⟩
  have ht : t = afterCompt s := by simpa [hp] using execCompt_cases h
  exact ht ▸ h

theorem exec_compp_admitted (hp : s.phase = .sampling) (hv : s.tfValid = true) :
    exec .compp s = .next (afterCompp s) := by
  obtain ⟨t, h⟩ : ∃ t, execCompp s = .next t := ⟨_, rfl⟩
  have ht : t = afterCompp s := by simpa [hp, hv] using execCompp_cases h
  exact ht ▸ h

theorem exec_comph_admitted (hp : s.phase = .sampling) (hv : s.tfValid = true) :
    exec .comph s = .next (afterComph s) := by
  obtain ⟨t, h⟩ : ∃ t, execComph s = .next t := ⟨_, rfl⟩
  have ht : t = afterComph s := by simpa [hp, hv] using execComph_cases h
  exact ht ▸ h

/-- After an operation that does not fault the rest of the expansion is issued. -/
theorem runUntilFault_cons_of_ok {rest : List Instr} (h : exec i s = .next t) (hok : t.status = .ok) :
    runUntilFault (i :: rest) s = runUntilFault rest t := by
  simp [runUntilFault, h, hok]

/-- COMP from Sampling is COMPT, COMPP and COMPH one after another (R74). -/
theorem runUntilFault_pseudoComp (hp : s.phase = .sampling) :
    runUntilFault Instr.pseudoComp s = .next (afterComph (afterCompp (afterCompt s))) := by
  calc runUntilFault [.compt, .compp, .comph] s
      = runUntilFault [.compp, .comph] (afterCompt s) := runUntilFault_cons_of_ok (exec_compt_admitted hp) rfl
    _ = runUntilFault [.comph] (afterCompp (afterCompt s)) :=
        runUntilFault_cons_of_ok (exec_compp_admitted hp rfl) rfl
    _ = runUntilFault [] (afterComph (afterCompp (afterCompt s))) :=
        runUntilFault_cons_of_ok (exec_comph_admitted hp rfl) rfl

/-- POLL with the three transactions completing is SAMPLE and then COMP (R75). -/
theorem runUntilFault_pseudoPoll (hp : s.phase ≠ .uninitialized) (h0 : busOk s 0 = true) (h1 : busOk s 1 = true)
    (h2 : busOk s 2 = true) :
    runUntilFault Instr.pseudoPoll s = .next (afterComph (afterCompp (afterCompt (afterSample s)))) :=
  (runUntilFault_cons_of_ok (exec_sample_completes hp h0 h1 h2) rfl).trans (runUntilFault_pseudoComp rfl)

/-- Settles O51: the state POLL ends in is known by `runUntilFault_pseudoPoll`; its registers are read off. -/
theorem pollEndsCalibrated : Obligations.PollEndsCalibrated := by
  refine ⟨rfl, fun s hp h0 h1 h2 => ⟨_, runUntilFault_pseudoPoll hp h0 h1 h2, ?_⟩⟩
  simp

end Sys2Proof.Machine
end

section
/-! The calibration blocks (`40_init_calibration.md` R87 to R89): the fields of `unpackCal` as signed and unsigned
numbers. -/

namespace Sys2Proof.Machine

/-- `sext_8`: a byte read as a signed number, bit 7 its sign. -/
theorem byte_toInt (x : Byte) : x.toInt = if x.toNat < 128 then (x.toNat : Int) else x.toNat - 256 := by
  rw [BitVec.toInt_eq_toNat_cond]
  omega

/-- `s16le` is `u16le` with bit 15 as its sign (R49). -/
theorem u16le_toInt (lo hi : Byte) : (u16le lo hi).toInt =
    if (lo.toNat + 256 * hi.toNat : Int) < 32768 then (lo.toNat + 256 * hi.toNat : Int)
    else lo.toNat + 256 * hi.toNat - 65536 := by
  rw [BitVec.toInt_eq_toNat_cond, u16le_toNat]
  omega

theorem u16le_toNat_int (lo hi : Byte) : ((u16le lo hi).toNat : Int) = lo.toNat + 256 * hi.toNat := by
  simp

/-- Byte 24 of block A is in no trim register (R64, R87). -/
theorem unpackCal_update_unused (a : ByteVec 26) (b : ByteVec 7) (x : Byte) :
    unpackCal (Function.update a 24 x) b = unpackCal a b := by
  simp [unpackCal]

/-- Settles O6: every field is a `u16le` read unsigned or signed; H1 is a byte; byte 24 is read by no field. -/
theorem calibrationBlockALayout : Obligations.CalibrationBlockALayout := by
  intro a b
  exact ⟨⟨u16le_toNat_int _ _, u16le_toInt _ _, u16le_toInt _ _⟩,
    ⟨u16le_toNat_int _ _, u16le_toInt _ _, u16le_toInt _ _, u16le_toInt _ _, u16le_toInt _ _, u16le_toInt _ _,
      u16le_toInt _ _, u16le_toInt _ _, u16le_toInt _ _⟩,
    rfl, unpackCal_update_unused a b⟩

/-- Settles O7: H4 and H5 by the signed readings of their assemblies, the signed byte by `byte_toInt`. -/
theorem calibrationBlockBLayout : Obligations.CalibrationBlockBLayout := by
  intro a b
  dsimp only
  simp only [← byte_toInt]
  exact ⟨u16le_toInt _ _, rfl, s12Lo_toInt _ _, s12Hi_toInt _ _, rfl⟩

end Sys2Proof.Machine
end

section
/-! INIT (`40_init_calibration.md` R80 to R86): the state after each of its transactions written out, and the one state it
answers under each of its conditions. -/

namespace Sys2Proof.Machine

open Sys2Proof.Claims

variable {s t : State} {osr : Nat}

theorem legalMode_iff : legalMode osr = true ↔ 1 ≤ osr ∧ osr ≤ 5 := by
  simp [legalMode]

/-- Oversampling x1 in both fields and normal mode is the byte 0x27 (R83, D15). -/
@[simp] theorem ctrlMeasByte_one_modeNormal : ctrlMeasByte 1#3 modeNormal = 0x27 := by
  decide

/-! ### The state after each transaction -/

theorem afterBlockA_eq (ok : Bool) (s : State) : afterBlockA ok s = { s with
    answers := s.answers.drop 1
    busCount := s.busCount + 1
    trace := s.trace ++ [readBlockA s ok] } := by
  simp [transact, readBlockA]

theorem afterBlockB_eq (ok : Bool) (s : State) : afterBlockB ok s = { s with
    answers := s.answers.drop 2
    busCount := s.busCount + 2
    trace := s.trace ++ [readBlockA s true, readBlockB s ok] } := by
  simp [transact, readBlockA, readBlockB, ← List.drop_one]

theorem afterInitControl_eq (ok : Bool) (s : State) : afterInitControl ok s = { s with
    answers := s.answers.drop 3
    busCount := s.busCount + 3
    trace := s.trace ++ [readBlockA s true, readBlockB s true, writeInitControl s ok] } := by
  simp [transact, readBlockA, readBlockB, writeInitControl, ← List.drop_one]

/-! ### What INIT answers -/

/-- INIT answers a next state, so the state that its cases force is the answer. -/
theorem exec_init_eq_next (h : ∀ u, execInit osr s = .next u → u = t) : exec (.init osr) s = .next t :=
  congrArg Host.Outcome.next (h _ rfl)

/-- The phase is checked first (R81, R84). -/
theorem exec_init_refused (hp : s.phase ≠ .uninitialized) :
    exec (.init osr) s = .next (raise .sequenceError s) :=
  exec_init_eq_next fun _ h => by simpa [hp] using execInit_cases h

/-- The operand is checked before the bus is used (R81, R82). -/
theorem exec_init_illegalMode (hp : s.phase = .uninitialized) (hm : legalMode osr = false) :
    exec (.init osr) s = .next (raise .configurationError s) :=
  exec_init_eq_next fun _ h => by simpa [hp, hm] using execInit_cases h

section Admitted

variable (hp : s.phase = .uninitialized) (hm : legalMode osr = true)
include hp hm

theorem exec_init_blockA_fails (h0 : busOk s 0 = false) :
    exec (.init osr) s = .next (raise .busError (afterBlockA false s)) :=
  exec_init_eq_next fun _ h => by simpa [hp, hm, h0] using execInit_cases h

theorem exec_init_blockB_fails (h0 : busOk s 0 = true) (h1 : busOk s 1 = false) :
    exec (.init osr) s = .next (raise .busError (afterBlockB false s)) :=
  exec_init_eq_next fun _ h => by simpa [hp, hm, h0, h1] using execInit_cases h

theorem exec_init_control_fails (h0 : busOk s 0 = true) (h1 : busOk s 1 = true) (h2 : busOk s 2 = false) :
    exec (.init osr) s = .next (raise .busError (afterInitControl false s)) :=
  exec_init_eq_next fun _ h => by simpa [hp, hm, h0, h1, h2] using execInit_cases h

theorem exec_init_completes (h0 : busOk s 0 = true) (h1 : busOk s 1 = true) (h2 : busOk s 2 = true) :
    exec (.init osr) s = .next (complete (commitCalibration osr (fun i => busByte s 0 i) (fun i => busByte s 1 i)
      (afterInitControl true s))) :=
  exec_init_eq_next fun _ h => by simpa [hp, hm, h0, h1, h2] using execInit_cases h

end Admitted

/-! ### The obligations -/

/-- Settles O13: the first check of INIT. -/
theorem secondInitRefused : Obligations.SecondInitRefused :=
  fun _ _ hp => exec_init_refused hp

/-- Settles O14: the second check of INIT; none of 0, 6 and 7 is from 1 to 5. -/
theorem initIllegalModeRefused : Obligations.InitIllegalModeRefused := by
  intro s osr hp hosr
  have hm : legalMode osr = false := by
    obtain rfl | rfl | rfl := hosr <;> rfl
  exact exec_init_illegalMode hp hm

/-- Settles O11: the state INIT completes in, its three transactions written out. -/
theorem initCommitsCalibration : Obligations.InitCommitsCalibration := by
  intro s osr hp hlo hhi h0 h1 h2
  rw [exec_init_completes hp (legalMode_iff.2 ⟨hlo, hhi⟩) h0 h1 h2, afterInitControl_eq]
  rfl

/-- Settles O15: the state INIT raises BusError in, the transactions it made written out. -/
theorem initBusErrorLeavesRegisters : Obligations.InitBusErrorLeavesRegisters := by
  intro s osr hp hlo hhi
  have hm : legalMode osr = true := legalMode_iff.2 ⟨hlo, hhi⟩
  refine ⟨fun h0 => ?blockA, fun h0 h1 => ?blockB, fun h0 h1 h2 => ?control⟩
  case blockA =>
    rw [exec_init_blockA_fails hp hm h0, afterBlockA_eq]
    rfl
  case blockB =>
    rw [exec_init_blockB_fails hp hm h0 h1, afterBlockB_eq]
    rfl
  case control =>
    rw [exec_init_control_fails hp hm h0 h1 h2, afterInitControl_eq]
    rfl

/-- Settles O12: by the first transaction that fails, if one does; each case's answer is known. -/
theorem initBusTransactionsInOrder : Obligations.InitBusTransactionsInOrder := by
  intro s osr hp hlo hhi
  have hm : legalMode osr = true := legalMode_iff.2 ⟨hlo, hhi⟩
  cases h0 : busOk s 0 with
  | false => exact ⟨_, exec_init_blockA_fails hp hm h0, by simp [afterBlockA_eq]⟩
  | true =>
    cases h1 : busOk s 1 with
    | false => exact ⟨_, exec_init_blockB_fails hp hm h0 h1, by simp [afterBlockB_eq]⟩
    | true =>
      cases h2 : busOk s 2 with
      | false => exact ⟨_, exec_init_control_fails hp hm h0 h1 h2, by simp [afterInitControl_eq]⟩
      | true => exact ⟨_, exec_init_completes hp hm h0 h1 h2, by simp [afterInitControl_eq]⟩

end Sys2Proof.Machine
end

section
/-! SAMPLE (`41_sample.md` R90 to R97): the burst as numbers, the settle time, the bytes SAMPLE writes, the state after
each of its transactions written out, and the one state it answers under each of its conditions. -/

namespace Sys2Proof.Machine

open Sys2Proof.Claims

variable {s t : State}

/-! ### The burst, the settle time and the control bytes -/

/-- A 20-bit count holds three bytes without their low nibble: nothing is lost (R95). -/
theorem ofNat_be24_shiftRight_toNat (b0 b1 b2 : Byte) : (BitVec.ofNat 20 (be24 b0 b1 b2 >>> 4)).toNat =
    (65536 * b0.toNat + 256 * b1.toNat + b2.toNat) / 16 := by
  have hlt := be24_lt b0 b1 b2
  rw [BitVec.toNat_ofNat, Nat.shiftRight_eq_div_pow, Nat.mod_eq_of_lt (by omega)]
  rfl

/-- Two bytes, the one at the lower register address the more significant, fill a 16-bit count (R95). -/
theorem ofNat_be16_toNat (hi lo : Byte) :
    (BitVec.ofNat 16 (256 * hi.toNat + lo.toNat)).toNat = 256 * hi.toNat + lo.toNat := by
  rw [BitVec.toNat_ofNat]
  omega

/-- The three channels together (R93). -/
theorem tSettle_eq (m : BitVec 3) : tSettle m = 2400 + 6900 * 2 ^ m.toNat := by
  rw [tSettle]
  omega

/-- The humidity control byte is the oversampling value itself (R68). -/
theorem ctrlHumByte_eq_ofNat (m : BitVec 3) : ctrlHumByte m = BitVec.ofNat 8 m.toNat :=
  (BitVec.ofNat_toNat 8 m).symm

/-- The forced-mode control byte as a sum: its three fields do not overlap (R69, R71). -/
theorem ctrlMeasByte_modeForced (m : BitVec 3) :
    ctrlMeasByte m modeForced = BitVec.ofNat 8 (32 * m.toNat + 4 * m.toNat + 1) := by
  revert m
  decide

/-! ### The state after each transaction -/

theorem afterHumWrite_eq (ok : Bool) (s : State) : afterHumWrite ok s = { s with
    tfValid := false
    answers := s.answers.drop 1
    busCount := s.busCount + 1
    trace := s.trace ++ [writeHumidityControl s ok] } := by
  simp [transact, clearTfValid, writeHumidityControl, ctrlHumByte_eq_ofNat]

theorem afterTrigger_eq (ok : Bool) (s : State) : afterTrigger ok s = { s with
    tfValid := false
    answers := s.answers.drop 2
    busCount := s.busCount + 2
    trace := s.trace ++ [writeHumidityControl s true, writeForcedControl s ok] } := by
  rw [afterTrigger, afterHumWrite_eq]
  simp [transact, writeForcedControl, ctrlMeasByte_modeForced, ← List.drop_one]

theorem afterBurst_eq (ok : Bool) (s : State) : afterBurst ok s = { s with
    tfValid := false
    answers := s.answers.drop 3
    busCount := s.busCount + 3
    trace := s.trace ++ [writeHumidityControl s true, writeForcedControl s true, settleWait s, readBurst s ok] } := by
  rw [afterBurst, afterTrigger_eq]
  simp [transact, wait, settleWait, readBurst, tSettle_eq]

/-! ### What SAMPLE answers -/

/-- SAMPLE answers a next state, so the state that its cases force is the answer. -/
theorem exec_sample_eq_next (h : ∀ u, execSample s = .next u → u = t) : exec .sample s = .next t :=
  congrArg Host.Outcome.next (h _ rfl)

/-- SAMPLE needs a calibration (R91). -/
theorem exec_sample_refused (hp : s.phase = .uninitialized) : exec .sample s = .next (raise .sequenceError s) :=
  exec_sample_eq_next fun _ h => by simpa [hp] using execSample_cases h

section Admitted

variable (hp : s.phase ≠ .uninitialized)
include hp

theorem exec_sample_humWrite_fails (h0 : busOk s 0 = false) :
    exec .sample s = .next (sampleBusError (afterHumWrite false s)) :=
  exec_sample_eq_next fun _ h => by simpa [hp, h0] using execSample_cases h

theorem exec_sample_trigger_fails (h0 : busOk s 0 = true) (h1 : busOk s 1 = false) :
    exec .sample s = .next (sampleBusError (afterTrigger false s)) :=
  exec_sample_eq_next fun _ h => by simpa [hp, h0, h1] using execSample_cases h

theorem exec_sample_burst_fails (h0 : busOk s 0 = true) (h1 : busOk s 1 = true) (h2 : busOk s 2 = false) :
    exec .sample s = .next (sampleBusError (afterBurst false s)) :=
  exec_sample_eq_next fun _ h => by simpa [hp, h0, h1, h2] using execSample_cases h

/-- An admitted SAMPLE ends with TF_VALID clear and without SequenceError, whatever the bus does (R91, R99). -/
theorem execSample_admitted (h : execSample s = .next t) : t.status ≠ .sequenceError ∧ t.tfValid = false := by
  obtain ⟨hu, _⟩ | ⟨_, ⟨_, rfl⟩ | ⟨_, _, rfl⟩ | ⟨_, _, _, rfl⟩ | ⟨_, _, _, rfl⟩⟩ := execSample_cases h
  · exact absurd hu hp
  all_goals simp

end Admitted

/-! ### The obligations -/

/-- Settles O20: the sum is the definition, the closed form is `tSettle_eq`. -/
theorem settleTimeFormula : Obligations.SettleTimeFormula :=
  fun m => ⟨rfl, tSettle_eq m⟩

/-- Settles O9: ADC_P and ADC_T are the same assembly of three bytes each, ADC_H one of two. -/
theorem rawBurstLayout : Obligations.RawBurstLayout :=
  fun r => ⟨ofNat_be24_shiftRight_toNat (r 0) (r 1) (r 2), ofNat_be24_shiftRight_toNat (r 3) (r 4) (r 5),
    ofNat_be16_toNat (r 6) (r 7)⟩

/-- Settles O16: the state SAMPLE completes in, its three transactions and its wait written out. -/
theorem sampleCommitsRawSample : Obligations.SampleCommitsRawSample := by
  intro s hp h0 h1 h2
  rw [exec_sample_completes hp h0 h1 h2, afterSample, afterBurst_eq]
  rfl

/-- Settles O19: the state SAMPLE raises BusError in, the transactions it made written out. -/
theorem sampleBusErrorClosesCycle : Obligations.SampleBusErrorClosesCycle := by
  intro s hp
  refine ⟨fun h0 => ?humWrite, fun h0 h1 => ?trigger, fun h0 h1 h2 => ?burst⟩
  case humWrite =>
    rw [exec_sample_humWrite_fails hp h0, afterHumWrite_eq]
    rfl
  case trigger =>
    rw [exec_sample_trigger_fails hp h0 h1, afterTrigger_eq]
    rfl
  case burst =>
    rw [exec_sample_burst_fails hp h0 h1 h2, afterBurst_eq]
    rfl

/-- Settles O17: by the first transaction that fails, if one does; each case's answer is known. -/
theorem sampleBusTransactionsInOrder : Obligations.SampleBusTransactionsInOrder := by
  intro s hp
  cases h0 : busOk s 0 with
  | false => exact ⟨_, exec_sample_humWrite_fails hp h0, by simp [afterHumWrite_eq]⟩
  | true =>
    cases h1 : busOk s 1 with
    | false => exact ⟨_, exec_sample_trigger_fails hp h0 h1, by simp [afterTrigger_eq]⟩
    | true =>
      cases h2 : busOk s 2 with
      | false => exact ⟨_, exec_sample_burst_fails hp h0 h1 h2, by simp [afterBurst_eq]⟩
      | true => exact ⟨_, exec_sample_completes hp h0 h1 h2, by simp [afterBurst_eq]⟩

/-- Settles O18: refused in Uninitialized; elsewhere `execSample_admitted`, and where the bus answers the state is known. -/
theorem sampleAdmission : Obligations.SampleAdmission := by
  intro s
  refine ⟨exec_sample_refused, fun hp => ?_⟩
  have hne : s.phase ≠ .uninitialized := fun hu => by simp [hu] at hp
  obtain ⟨t, h⟩ : ∃ t, execSample s = .next t := ⟨_, rfl⟩
  obtain ⟨hstatus, hvalid⟩ := execSample_admitted hne h
  refine ⟨t, h, hstatus, hvalid, fun h0 h1 h2 => ?_⟩
  obtain rfl : t = afterSample s := Host.Outcome.next.inj (h.symm.trans (exec_sample_completes hne h0 h1 h2))
  exact ⟨rfl, rfl⟩

end Sys2Proof.Machine
end

section
/-! The arithmetic of the compensation (`42_compensation.md` section 1, R107, R111): the one division under both values
of `DIV_ROUND`, when a shift answers 0, and the clamp. -/

namespace Sys2Proof.Machine

/-! ### The division -/

/-- Sign and magnitude of the truncated quotient (R103). -/
theorem tdiv_eq_sign_mul_natAbs_div (a b : Int) :
    tdiv a b = a.sign * b.sign * ((a.natAbs / b.natAbs : Nat) : Int) := by
  have hmag : (a.tdiv b).natAbs = a.natAbs / b.natAbs := Int.natAbs_tdiv a b
  rw [tdiv, ← Int.sign_mul_natAbs (a.tdiv b), hmag, Int.sign_tdiv]
  split
  case isTrue hlt => simp [Nat.div_eq_of_lt hlt]
  case isFalse => rfl

/-- The floor is one below the truncated quotient where the exact quotient is negative and no integer; elsewhere the two
agree (R103). -/
theorem fdiv_eq_tdiv_sub_ite {a b : Int} (hb : b ≠ 0) :
    Int.fdiv a b = tdiv a b - if a * b < 0 ∧ ¬b ∣ a then 1 else 0 := by
  by_cases hd : b ∣ a
  · simp [fdiv_eq_tdiv_of_dvd hd, hd]
  · have ha : a ≠ 0 := fun h => hd (h ▸ dvd_zero b)
    rw [Int.fdiv_eq_tdiv, tdiv]
    obtain hneg | hpos := lt_or_gt_of_ne ha <;> obtain hbneg | hbpos := lt_or_gt_of_ne hb
    · simp [hd, hneg.not_ge, hbneg.not_ge, Int.sign_eq_neg_one_of_neg hbneg, (mul_pos_of_neg_of_neg hneg hbneg).not_gt]
    · simp [hd, hneg.not_ge, hbpos.le, Int.sign_eq_one_of_pos hbpos, mul_neg_of_neg_of_pos hneg hbpos]
    · simp [hd, hpos.le, hbneg.not_ge, mul_neg_of_pos_of_neg hpos hbneg]
    · simp [hd, hpos.le, hbpos.le, (mul_pos hpos hbpos).not_gt]

/-- The parameter `DIV_ROUND` chooses between the library's two quotients (R103, U2). -/
theorem roundDiv_eq_ite (m : DivRound) (a b : Int) :
    roundDiv m a b = if m = .trunc then Int.tdiv a b else Int.fdiv a b := by
  cases m <;> rfl

/-- Settles O25: sign and magnitude of the truncated quotient, and the exact amount by which the floor is below it. -/
theorem pressureDivisionRounding : Obligations.PressureDivisionRounding := by
  intro a b hb
  refine ⟨tdiv_eq_sign_mul_natAbs_div a b, ?_⟩
  have hfloor : roundDiv .floor a b = roundDiv .trunc a b - if a * b < 0 ∧ ¬b ∣ a then 1 else 0 :=
    fdiv_eq_tdiv_sub_ite hb
  rw [hfloor, Ne, sub_eq_self]
  simp

/-! ### The shifts -/

/-- A right shift answers 0 exactly on the numbers below its power of two (R101, R107). -/
theorem shr_eq_zero_iff (a : Int) (n : Nat) : shr a n = 0 ↔ 0 ≤ a ∧ a < 2 ^ n := by
  rw [shr_eq_ediv, Int.ediv_eq_iff_of_pos (by positivity), zero_mul, zero_add]

theorem shl_one_left (n : Nat) : shl 1 n = 2 ^ n := one_mul _

/-! ### The clamp -/

/-- The bounds do not cross, so their order does not matter (R111). -/
theorem clampHumidity_eq_max_min (y : Int) : clampHumidity y = max 0 (min y 419430400) := by
  unfold clampHumidity
  split
  · omega
  · split <;> omega

/-- HUM is 0 to 100 %RH: the clamp's bounds, shifted (R111). -/
theorem humCalc_hum_mem (c : Calibration) (adcH : BitVec 16) (tFine : Int) :
    0 ≤ (humCalc c adcH tFine).hum ∧ (humCalc c adcH tFine).hum ≤ 102400 :=
  shr_mem_of_mem (clampHumidity_mem (humCalc c adcH tFine).y) 12

end Sys2Proof.Machine
end

section
/-! COMPT, COMPP and COMPH (`42_compensation.md` sections 2 to 5): the refusals, the admitted results written out with
the library's operations, and that each operation depends on the registers of its rule only. -/

namespace Sys2Proof.Machine

variable {s s' t t' : State}

/-! ### The refusals -/

theorem exec_compt_refused (hp : s.phase ≠ .sampling) : exec .compt s = .next (raise .sequenceError s) := by
  obtain ⟨t, h⟩ : ∃ t, execCompt s = .next t := ⟨_, rfl⟩
  have ht : t = raise .sequenceError s := by simpa [hp] using execCompt_cases h
  exact ht ▸ h

theorem exec_compp_refused (ha : ¬(s.phase = .sampling ∧ s.tfValid = true)) :
    exec .compp s = .next (raise .sequenceError s) := by
  obtain ⟨t, h⟩ : ∃ t, execCompp s = .next t := ⟨_, rfl⟩
  obtain ⟨_, rfl⟩ | ⟨hadm, _⟩ := execCompp_cases h
  · exact h
  · exact absurd hadm ha

theorem exec_comph_refused (ha : ¬(s.phase = .sampling ∧ s.tfValid = true)) :
    exec .comph s = .next (raise .sequenceError s) := by
  obtain ⟨t, h⟩ : ∃ t, execComph s = .next t := ⟨_, rfl⟩
  obtain ⟨_, rfl⟩ | ⟨hadm, _⟩ := execComph_cases h
  · exact h
  · exact absurd hadm ha

/-! ### The results -/

/-- Settles O22: the answer of an admitted and of a refused COMPT; the shifts are floor divisions and products by
definition. -/
theorem comptComputesTemperature : Obligations.ComptComputesTemperature := by
  refine fun s => ⟨fun hp => ?_, exec_compt_refused⟩
  rw [exec_compt_admitted hp]
  rfl

/-- Settles O23: the answer of an admitted and of a refused COMPP; the division is read off `DIV_ROUND`, and the base
`1 << 47` is the power itself. -/
theorem comppComputesPressure : Obligations.ComppComputesPressure := by
  refine fun s => ⟨fun hp hv => ?_, exec_compp_refused⟩
  rw [exec_compp_admitted hp hv, afterCompp]
  simp only [pressure, pressDen, pressQuot, roundDiv_eq_ite, shl_one_left]
  rfl

/-- The denominator term, with the base `1 << 47` as the power itself (R106). -/
theorem pressDen_c2 (c : Calibration) (tFine : Int) :
    (pressDen c tFine).c2 = shr ((2 ^ 47 + (pressDen c tFine).c1) * c.p1.toNat) 33 := by
  rw [← shl_one_left]
  rfl

/-- The guard (R107). -/
theorem pressure_of_c2_eq_zero {c : Calibration} {tFine : Int} (h : (pressDen c tFine).c2 = 0) (m : DivRound)
    (adcP : BitVec 20) : pressure m c adcP tFine = 0 :=
  if_pos h

/-- Settles O24: the denominator term is a right shift of the product, so `shr_eq_zero_iff` says when it is 0, and the
guard says what COMPP writes then. -/
theorem comppZeroDenominatorGuard : Obligations.ComppZeroDenominatorGuard := by
  intro s hp hv v c1 product
  refine ⟨shr_eq_zero_iff product 33, fun hzero => ?_⟩
  have hc2 : (pressDen s.cal s.tFine).c2 = 0 := (pressDen_c2 s.cal s.tFine).trans hzero
  rw [exec_compp_admitted hp hv, afterCompp, pressure_of_c2_eq_zero hc2]
  rfl

/-- Settles O26: the answer of an admitted and of a refused COMPH; the clamp is a maximum of a minimum. -/
theorem comphComputesHumidity : Obligations.ComphComputesHumidity := by
  refine fun s => ⟨fun hp hv => ?_, exec_comph_refused⟩
  rw [exec_comph_admitted hp hv, afterComph]
  simp only [humCalc, clampHumidity_eq_max_min]
  rfl

/-- Settles O27: the clamp as a maximum of a minimum, and the range of the HUM that an admitted COMPH answers. -/
theorem humidityAlwaysClamped : Obligations.HumidityAlwaysClamped := by
  refine ⟨fun y => ?_, fun s hp hv => ⟨_, exec_comph_admitted hp hv, humCalc_hum_mem s.cal s.raw.adcH s.tFine⟩⟩
  rw [clampHumidity_eq_max_min]
  omega

/-! ### What the operations read -/

theorem tempCalc_congr {c c' : Calibration} (adcT : BitVec 20) (h1 : c.t1 = c'.t1) (h2 : c.t2 = c'.t2)
    (h3 : c.t3 = c'.t3) : tempCalc c adcT = tempCalc c' adcT := by
  simp only [tempCalc, h1, h2, h3]

theorem pressDen_congr {c c' : Calibration} (tFine : Int) (h1 : c.p1 = c'.p1) (h2 : c.p2 = c'.p2) (h3 : c.p3 = c'.p3)
    (h4 : c.p4 = c'.p4) (h5 : c.p5 = c'.p5) (h6 : c.p6 = c'.p6) : pressDen c tFine = pressDen c' tFine := by
  simp only [pressDen, h1, h2, h3, h4, h5, h6]

theorem pressQuot_congr {c c' : Calibration} (m : DivRound) (adcP : BitVec 20) (b3 c2 : Int) (h7 : c.p7 = c'.p7)
    (h8 : c.p8 = c'.p8) (h9 : c.p9 = c'.p9) : pressQuot m c adcP b3 c2 = pressQuot m c' adcP b3 c2 := by
  simp only [pressQuot, h7, h8, h9]

theorem humCalc_congr {c c' : Calibration} (adcH : BitVec 16) (tFine : Int) (h1 : c.h1 = c'.h1) (h2 : c.h2 = c'.h2)
    (h3 : c.h3 = c'.h3) (h4 : c.h4 = c'.h4) (h5 : c.h5 = c'.h5) (h6 : c.h6 = c'.h6) :
    humCalc c adcH tFine = humCalc c' adcH tFine := by
  simp only [humCalc, h1, h2, h3, h4, h5, h6]

/-- The three operations leave the bus port alone (R113). -/
theorem exec_compensation_bus {i : Instr} (hi : i = .compt ∨ i = .compp ∨ i = .comph) (h : exec i s = .next t) :
    t.trace = s.trace ∧ t.answers = s.answers ∧ t.busCount = s.busCount := by
  obtain rfl | rfl | rfl := hi
  · obtain ⟨_, rfl⟩ | ⟨_, rfl⟩ := execCompt_cases h <;> simp
  · obtain ⟨_, rfl⟩ | ⟨_, rfl⟩ := execCompp_cases h <;> simp
  · obtain ⟨_, rfl⟩ | ⟨_, rfl⟩ := execComph_cases h <;> simp

/-- COMPT in two states of one PHASE with the same calculation. -/
theorem exec_compt_agree (hp : s.phase = s'.phase)
    (hcalc : tempCalc s.cal s.raw.adcT = tempCalc s'.cal s'.raw.adcT)
    (h : exec .compt s = .next t) (h' : exec .compt s' = .next t') :
    t.status = t'.status ∧ (t.status = .ok → t.tFine = t'.tFine ∧ t.temp = t'.temp) := by
  obtain ⟨hr, rfl⟩ | ⟨ha, rfl⟩ := execCompt_cases h <;> obtain ⟨hr', rfl⟩ | ⟨ha', rfl⟩ := execCompt_cases h'
  · simp
  · exact absurd (hp.trans ha') hr
  · exact absurd (hp.symm.trans ha) hr'
  · simp [hcalc]

/-- COMPP in two states of one PHASE and TF_VALID with the same pressure. -/
theorem exec_compp_agree (hp : s.phase = s'.phase) (hv : s.tfValid = s'.tfValid)
    (hcalc : pressure s.config.divRound s.cal s.raw.adcP s.tFine =
      pressure s'.config.divRound s'.cal s'.raw.adcP s'.tFine)
    (h : exec .compp s = .next t) (h' : exec .compp s' = .next t') :
    t.status = t'.status ∧ (t.status = .ok → t.press = t'.press) := by
  obtain ⟨hr, rfl⟩ | ⟨ha, rfl⟩ := execCompp_cases h <;> obtain ⟨hr', rfl⟩ | ⟨ha', rfl⟩ := execCompp_cases h'
  · simp
  · exact absurd (hp ▸ hv ▸ ha') hr
  · exact absurd (hp ▸ hv ▸ ha) hr'
  · simp [hcalc]

/-- COMPH in two states of one PHASE and TF_VALID with the same calculation. -/
theorem exec_comph_agree (hp : s.phase = s'.phase) (hv : s.tfValid = s'.tfValid)
    (hcalc : humCalc s.cal s.raw.adcH s.tFine = humCalc s'.cal s'.raw.adcH s'.tFine)
    (h : exec .comph s = .next t) (h' : exec .comph s' = .next t') :
    t.status = t'.status ∧ (t.status = .ok → t.hum = t'.hum) := by
  obtain ⟨hr, rfl⟩ | ⟨ha, rfl⟩ := execComph_cases h <;> obtain ⟨hr', rfl⟩ | ⟨ha', rfl⟩ := execComph_cases h'
  · simp
  · exact absurd (hp ▸ hv ▸ ha') hr
  · exact absurd (hp ▸ hv ▸ ha) hr'
  · simp [hcalc]

/-- Settles O28: no operation touches the bus port, and each answers by a calculation that the listed registers fix. -/
theorem compensationReadsOnlyItsRegisters : Obligations.CompensationReadsOnlyItsRegisters := by
  refine ⟨fun i s t => exec_compensation_bus, ?compt, ?compp, ?comph⟩
  case compt =>
    intro s s' t t' hp h h' hadc h1 h2 h3
    exact exec_compt_agree hp (by rw [hadc, tempCalc_congr _ h1 h2 h3]) h h'
  case compp =>
    intro s s' t t' hp hv h h' hm hadc hf h1 h2 h3 h4 h5 h6 h7 h8 h9
    refine exec_compp_agree hp hv ?_ h h'
    rw [hm, hadc, hf, pressure, pressDen_congr _ h1 h2 h3 h4 h5 h6, pressQuot_congr _ _ _ _ h7 h8 h9, pressure]
  case comph =>
    intro s s' t t' hp hv h h' hadc hf h1 h2 h3 h4 h5 h6
    exact exec_comph_agree hp hv (by rw [hadc, hf, humCalc_congr _ _ h1 h2 h3 h4 h5 h6]) h h'

end Sys2Proof.Machine
end

section
/-! The host's derived quantities (`44_derived_quantities.md` R121, R122, R124): what the Fahrenheit scale and the dew
point answer, the latter whatever the host's logarithm. -/

namespace Sys2Proof.Machine

/-! ### Fahrenheit -/

/-- The factor `18 / 10` of the model is the decimal `1.8` of R122. -/
theorem fahrenheit_eq_decimal (tC : ℝ) : fahrenheit tC = tC * 1.8 + 32 := by
  have hfactor : (18 / 10 : ℝ) = 1.8 := by norm_num
  rw [fahrenheit, hfactor]

/-- Settles O54: the scale is `fahrenheit_eq_decimal`, and DOC's two examples are its values at 0 and 100. -/
theorem fahrenheitScale : Obligations.FahrenheitScale := by
  refine ⟨fahrenheit_eq_decimal, ?freezing, ?boiling⟩
  case freezing => rw [fahrenheit_eq_decimal, zero_mul, zero_add]
  case boiling =>
    rw [fahrenheit_eq_decimal]
    norm_num

/-! ### No dew point for non-positive humidity -/

/-- The check of R124 comes before any division and before the logarithm. -/
theorem dewPoint_of_nonpos {α : Type} [Field α] [LinearOrder α] (ln : α → α) (tC : α) {rH : α} (h : rH ≤ 0) :
    dewPoint ln tC rH = .error .arithmeticDegenerate :=
  if_pos h

@[simp] theorem relativeHumidity_zero {α : Type} [Field α] : relativeHumidity (α := α) 0 = 0 := by
  simp [relativeHumidity]

/-- Settles O56: by `dewPoint_of_nonpos`; the relative humidity of HUM = 0 is 0. -/
theorem dewPointDegenerate : Obligations.DewPointDegenerate :=
  ⟨fun ln tC _ h => dewPoint_of_nonpos ln tC h, fun ln tC => dewPoint_of_nonpos ln tC relativeHumidity_zero.le⟩

end Sys2Proof.Machine
end

section
/-! The faults an operation can raise (`60_exceptions.md` R133, R139): the admission table as conditions on PHASE and
TF_VALID, and the one STATUS that each operation reports. -/

namespace Sys2Proof.Machine

open Sys2Proof.Claims

variable {s t : State} {i : Instr} {osr : Nat}

/-! ### The admission table, a row at a time -/

@[simp] theorem admissionTable_init (osr : Nat) (p : Phase) (v : Bool) :
    admissionTable (.init osr) p v = decide (p = .uninitialized) := by
  cases p <;> rfl

@[simp] theorem admissionTable_sample (p : Phase) (v : Bool) :
    admissionTable .sample p v = decide (p ≠ .uninitialized) := by
  cases p <;> rfl

@[simp] theorem admissionTable_compt (p : Phase) (v : Bool) :
    admissionTable .compt p v = decide (p = .sampling) := by
  cases p <;> rfl

@[simp] theorem admissionTable_compp (p : Phase) (v : Bool) :
    admissionTable .compp p v = decide (p = .sampling ∧ v = true) := by
  cases p <;> cases v <;> rfl

@[simp] theorem admissionTable_comph (p : Phase) (v : Bool) :
    admissionTable .comph p v = decide (p = .sampling ∧ v = true) := by
  cases p <;> cases v <;> rfl

/-- Every operation answers: none raises a fault of the machine, none is refused by the model (R140). -/
theorem exec_answers_next (i : Instr) (s : State) : ∃ t, exec i s = .next t := by
  cases i <;> exact ⟨_, rfl⟩

/-- An operation that the table does not admit raises SequenceError and changes STATUS only (R133, R136). -/
theorem exec_of_not_admitted (ha : admissionTable i s.phase s.tfValid = false) :
    exec i s = .next (raise .sequenceError s) := by
  cases i with
  | init osr => exact exec_init_refused (by simpa using ha)
  | sample => exact exec_sample_refused (by simpa using ha)
  | compt => exact exec_compt_refused (by simpa using ha)
  | compp => exact exec_compp_refused (by simpa using ha)
  | comph => exact exec_comph_refused (by simpa using ha)

/-! ### The STATUS an operation reports -/

/-- Whether the operation is an INIT whose operand is no mode (R82). -/
def hasIllegalMode : Instr → Bool
  | .init osr => !legalMode osr
  | _ => false

/-- Of the commands, INIT 0, 6 and 7 have an operand that is no mode (R82). -/
theorem hasIllegalMode_iff (hw : i.wf = true) :
    hasIllegalMode i = true ↔ i = .init 0 ∨ i = .init 6 ∨ i = .init 7 := by
  cases i with
  | init osr =>
    simp only [Instr.wf, decide_eq_true_eq] at hw
    simp only [hasIllegalMode, legalMode, Bool.not_eq_true', decide_eq_false_iff_not, Instr.init.injEq]
    omega
  | sample | compt | compp | comph => simp [hasIllegalMode]

/-- The STATUS of an operation: the first of its causes that applies (R139). -/
def firstCause (s : State) (i : Instr) : Status :=
  if admissionTable i s.phase s.tfValid = false then .sequenceError
  else if hasIllegalMode i = true then .configurationError
  else if meetsBusFailure s i = true then .busError
  else .ok

/-- None of the causes depends on what the host presents next. -/
@[simp] theorem firstCause_takeInput (s : State) (i : Instr) : firstCause (takeInput s) i = firstCause s i := by
  cases i <;> rfl

theorem firstCause_eq_sequenceError_iff :
    firstCause s i = .sequenceError ↔ admissionTable i s.phase s.tfValid = false := by
  unfold firstCause
  split_ifs <;> simp_all

theorem execInit_status (h : execInit osr s = .next t) : t.status = firstCause s (.init osr) := by
  obtain ⟨hp, rfl⟩ | ⟨hp, hm, rfl⟩ | ⟨hp, hm, hbus⟩ := execInit_cases h
  · simp [firstCause, hp]
  · simp [firstCause, hasIllegalMode, hp, hm]
  · obtain ⟨h0, rfl⟩ | ⟨h0, h1, rfl⟩ | ⟨h0, h1, h2, rfl⟩ | ⟨h0, h1, h2, rfl⟩ := hbus <;>
      simp [firstCause, hasIllegalMode, meetsBusFailure, *]

theorem execSample_status (h : execSample s = .next t) : t.status = firstCause s .sample := by
  obtain ⟨hp, rfl⟩ | ⟨hp, hbus⟩ := execSample_cases h
  · simp [firstCause, hp]
  · obtain ⟨h0, rfl⟩ | ⟨h0, h1, rfl⟩ | ⟨h0, h1, h2, rfl⟩ | ⟨h0, h1, h2, rfl⟩ := hbus <;>
      simp [firstCause, hasIllegalMode, meetsBusFailure, *]

/-- Every operation reports its first cause (R139). -/
theorem exec_status (h : exec i s = .next t) : t.status = firstCause s i := by
  cases i with
  | init osr => exact execInit_status h
  | sample => exact execSample_status h
  | compt =>
    obtain ⟨hp, rfl⟩ | ⟨hp, rfl⟩ := execCompt_cases h <;> simp [firstCause, hasIllegalMode, meetsBusFailure, hp]
  | compp =>
    obtain ⟨ha, rfl⟩ | ⟨ha, rfl⟩ := execCompp_cases h <;> simp [firstCause, hasIllegalMode, meetsBusFailure, ha]
  | comph =>
    obtain ⟨ha, rfl⟩ | ⟨ha, rfl⟩ := execComph_cases h <;> simp [firstCause, hasIllegalMode, meetsBusFailure, ha]

/-- Settles O32: `exec_status` says when STATUS is SequenceError, `exec_of_not_admitted` what the state is then. -/
theorem admissionTableDecidesSequenceError : Obligations.AdmissionTableDecidesSequenceError := by
  intro i s
  obtain ⟨t, h⟩ := exec_answers_next i s
  have hiff : t.status = .sequenceError ↔ admissionTable i s.phase s.tfValid = false := by
    rw [exec_status h, firstCause_eq_sequenceError_iff]
  refine ⟨t, h, hiff, fun hseq => ?_⟩
  exact Host.Outcome.next.inj (h.symm.trans (exec_of_not_admitted (hiff.1 hseq)))

/-! ### The STATUS a command reports -/

theorem step_of_decode_ok {w : Byte} {rest : List HostInput} (hi : s.inputs = .command w :: rest)
    (hd : decode w = .ok i) : step s = exec i (takeInput s) := by
  simp [step, hi, hd]

/-- The decoder reads a 3-bit operand, so what it answers is a command (R60, R62). -/
theorem wf_of_decode_eq_ok {w : Byte} (hd : decode w = .ok i) : i.wf = true := by
  obtain ⟨_, hw⟩ | ⟨_, hw⟩ | ⟨_, hw⟩ | ⟨_, hw⟩ | ⟨_, hw⟩ | ⟨_, hw⟩ := decode_cases w <;> rw [hw] at hd <;> cases hd
  case inl =>
    have hlt : w.toNat % 8 < 8 := Nat.mod_lt _ (by decide)
    simpa [Instr.wf] using Nat.le_of_lt_succ hlt
  all_goals rfl

/-- Settles O34: an illegal word by what the step does on it; a legal one by `exec_status`, its operand being one of
eight. -/
theorem statusReportsFirstCause : Obligations.StatusReportsFirstCause := by
  intro s w rest hi
  cases hd : decode w with
  | error r => exact ⟨_, step_of_decode_error hi hd, rfl⟩
  | ok i =>
    obtain ⟨t, h⟩ := exec_answers_next i (takeInput s)
    refine ⟨t, (step_of_decode_ok hi hd).trans h, ?_⟩
    have hstatus : t.status = firstCause s i := by rw [exec_status h, firstCause_takeInput]
    simp only [hstatus, firstCause, hasIllegalMode_iff (wf_of_decode_eq_ok hd)]

end Sys2Proof.Machine
end

section
/-! The hazards (`70_reset_and_hazards.md` R156, R158): a burst read is made only at the end of SAMPLE's whole bus
sequence, and T_FINE is not read while TF_VALID is clear. -/

namespace Sys2Proof.Machine

open Sys2Proof.Claims

variable {s t : State} {i : Instr} {osr : Nat} {added : List BusEvent} {ok ok' : Bool}

/-! ### The burst read and SAMPLE's other events -/

@[simp] theorem readBurst_ne_writeHumidityControl : readBurst s ok ≠ writeHumidityControl s ok' := nofun

@[simp] theorem readBurst_ne_writeForcedControl : readBurst s ok ≠ writeForcedControl s ok' := nofun

@[simp] theorem readBurst_ne_settleWait : readBurst s ok ≠ settleWait s := nofun

@[simp] theorem readBurst_inj : readBurst s ok = readBurst s ok' ↔ ok = ok' := by
  simp [readBurst]

/-- The bus sequence of a SAMPLE that gets as far as its burst read (R92, R94). -/
def burstSequence (s : State) (ok : Bool) : List BusEvent :=
  [writeHumidityControl s true, writeForcedControl s true, settleWait s, readBurst s ok]

@[simp] theorem readBurst_mem_burstSequence_iff : readBurst s ok ∈ burstSequence s ok' ↔ ok = ok' := by
  simp [burstSequence]

/-- The burst read is the last event of its sequence and no earlier one. -/
theorem eq_three_of_burstSequence_getElem? {k : Nat} (h : (burstSequence s ok)[k]? = some (readBurst s ok')) :
    k = 3 := by
  match k with
  | 0 | 1 | 2 => cases h
  | 3 => rfl
  | k + 4 => cases h

/-! ### Who makes a burst read -/

/-- INIT makes no transactions but its own three (R83). -/
theorem execInit_allowedAccess (h : execInit osr s = .next t) (htrace : t.trace = s.trace ++ added) :
    ∀ e ∈ added, allowedAccess s (.init osr) e := by
  obtain ⟨_, rfl⟩ | ⟨_, _, rfl⟩ |
    ⟨_, _, ⟨_, rfl⟩ | ⟨_, _, rfl⟩ | ⟨_, _, _, rfl⟩ | ⟨_, _, _, rfl⟩⟩ := execInit_cases h
  case inl | inr.inl =>
    obtain rfl : added = [] := by simpa using htrace
    simp
  case inr.inr.inl =>
    obtain rfl : [readBlockA s false] = added := by simpa [afterBlockA_eq] using htrace
    simp [allowedAccess]
  case inr.inr.inr.inl =>
    obtain rfl : [readBlockA s true, readBlockB s false] = added := by simpa [afterBlockB_eq] using htrace
    simp [allowedAccess]
  case inr.inr.inr.inr.inl =>
    obtain rfl : [readBlockA s true, readBlockB s true, writeInitControl s false] = added := by
      simpa [afterInitControl_eq] using htrace
    simp [allowedAccess]
  case inr.inr.inr.inr.inr =>
    obtain rfl : [readBlockA s true, readBlockB s true, writeInitControl s true] = added := by
      simpa [afterInitControl_eq] using htrace
    simp [allowedAccess]

/-- INIT's reads have 26 and 7 bytes; a burst read has 8 (R83, R92). -/
theorem not_allowedAccess_init_readBurst : ¬ allowedAccess s (.init osr) (readBurst s ok) := by
  simp [allowedAccess, readBurst, readBlockA, readBlockB, writeInitControl]

/-- A SAMPLE that makes the burst read has completed both writes and waited before it (R92, R94, R97). -/
theorem execSample_eq_burstSequence (h : execSample s = .next t) (htrace : t.trace = s.trace ++ added)
    (hmem : readBurst s ok ∈ added) : added = burstSequence s ok := by
  obtain ⟨_, rfl⟩ | ⟨_, ⟨_, rfl⟩ | ⟨_, _, rfl⟩ | ⟨_, _, _, rfl⟩ | ⟨_, _, _, rfl⟩⟩ := execSample_cases h
  case inl =>
    obtain rfl : added = [] := by simpa using htrace
    simp at hmem
  case inr.inl =>
    obtain rfl : [writeHumidityControl s false] = added := by simpa [afterHumWrite_eq] using htrace
    simp at hmem
  case inr.inr.inl =>
    obtain rfl : [writeHumidityControl s true, writeForcedControl s false] = added := by
      simpa [afterTrigger_eq] using htrace
    simp at hmem
  case inr.inr.inr.inl =>
    obtain rfl : burstSequence s false = added := by simpa [afterBurst_eq, burstSequence] using htrace
    rw [readBurst_mem_burstSequence_iff.1 hmem]
  case inr.inr.inr.inr =>
    obtain rfl : burstSequence s true = added := by simpa [afterBurst_eq, burstSequence] using htrace
    rw [readBurst_mem_burstSequence_iff.1 hmem]

/-- COMPT, COMPP and COMPH make no bus access (R113). -/
theorem exec_compensation_added (hi : i = .compt ∨ i = .compp ∨ i = .comph) (h : exec i s = .next t)
    (htrace : t.trace = s.trace ++ added) : added = [] := by
  obtain ⟨hsame, _, _⟩ := exec_compensation_bus hi h
  exact List.append_right_eq_self.1 (htrace.symm.trans hsame)

/-- An operation that makes a burst read has made the whole sequence (R156). -/
theorem exec_eq_burstSequence (h : exec i s = .next t) (htrace : t.trace = s.trace ++ added)
    (hmem : readBurst s ok ∈ added) : added = burstSequence s ok := by
  cases i with
  | init osr => exact absurd (execInit_allowedAccess h htrace _ hmem) not_allowedAccess_init_readBurst
  | sample => exact execSample_eq_burstSequence h htrace hmem
  | compt | compp | comph => simp [exec_compensation_added (by simp) h htrace] at hmem

/-- A step that makes a burst read has made the whole sequence: waiting, a reset and an illegal word use no bus. -/
theorem step_eq_burstSequence (h : step s = .next t) (htrace : t.trace = s.trace ++ added)
    (hmem : readBurst s ok ∈ added) : added = burstSequence s ok := by
  obtain ⟨_, rfl⟩ | ⟨_, _, rfl⟩ | ⟨_, _, _, _, _, rfl⟩ | ⟨_, _, _, _, _, he⟩ := step_cases h
  case inr.inr.inr => exact exec_eq_burstSequence (s := takeInput s) he htrace hmem
  all_goals
    obtain rfl : added = [] := by simpa using htrace
    simp at hmem

/-- Settles O21: the burst read is event 3 of the sequence; the wait and the completed write are events 2 and 1. -/
theorem burstReadOnlyAfterSettleWait : Obligations.BurstReadOnlyAfterSettleWait := by
  intro s t added k ok h htrace hk
  obtain rfl := step_eq_burstSequence h htrace (List.mem_of_getElem? hk)
  obtain rfl := eq_three_of_burstSequence_getElem? hk
  exact ⟨by decide, rfl, rfl⟩

/-! ### A stale T_FINE -/

/-- Settles O45: both ways leave TF_VALID clear, and COMPP and COMPH are refused while it is. -/
theorem staleTFineNeverRead : Obligations.StaleTFineNeverRead := by
  intro s t hstale
  have hvalid : t.tfValid = false := by
    obtain ⟨hp, h⟩ | ⟨hp, hv, h⟩ := hstale
    · obtain ⟨_, hvalid⟩ := execSample_admitted hp h
      exact hvalid
    · obtain rfl : t = afterComph s := Host.Outcome.next.inj (h.symm.trans (exec_comph_admitted hp hv))
      rfl
  have hadm : ¬(t.phase = .sampling ∧ t.tfValid = true) := by simp [hvalid]
  exact ⟨exec_compp_refused hadm, exec_comph_refused hadm⟩

end Sys2Proof.Machine
end

section
/-! The codec (`30_encoding.md` R60 to R62, R68, R69): a command word as a number, the encoder as the inverse of the
decoder, and the fields of the control bytes. -/

namespace Sys2Proof

/-- A command word is its opcode times 16 plus its operand: bit 3 is zero and the fields do not overlap (R60, R61). -/
theorem commandWord_toNat (op : BitVec 4) (osr : BitVec 3) :
    (commandWord op osr).toNat = 16 * op.toNat + osr.toNat := by
  have hop := op.isLt
  have hosr := osr.isLt
  have hshift : op.toNat <<< 4 % 256 = op.toNat <<< 4 := Nat.mod_eq_of_lt (by rw [Nat.shiftLeft_eq]; omega)
  simp only [commandWord, BitVec.toNat_or, BitVec.toNat_shiftLeft, BitVec.toNat_setWidth]
  rw [Nat.mod_eq_of_lt (by omega : op.toNat < 2 ^ 8), Nat.mod_eq_of_lt (by omega : osr.toNat < 2 ^ 8), hshift,
    ← Nat.shiftLeft_add_eq_or_of_lt (by omega), Nat.shiftLeft_eq, Nat.mul_comm]

theorem encode_init_toNat {osr : Nat} (h : osr ≤ 7) : (encode (.init osr)).toNat = 16 + osr := by
  rw [encode, commandWord_toNat, BitVec.toNat_ofNat, Nat.mod_eq_of_lt (by omega)]
  rfl

/-- The words of INIT, and the operand read from them (R62). -/
theorem decode_eq_init {w : Byte} (h : w.toNat / 8 = 2) : decode w = .ok (.init (w.toNat % 8)) := by
  rw [decode, if_pos ((and_initMask_eq_iff w).2 h), osrField_toNat]

/-- The word of a well-formed command decodes to that command. -/
theorem decode_encode {i : Instr} (h : i.wf = true) : decode (encode i) = .ok i := by
  cases i with
  | init osr =>
    have hosr : osr ≤ 7 := by simpa [Instr.wf] using h
    have hw := encode_init_toNat hosr
    rw [decode_eq_init (by omega), hw]
    congr 2
    omega
  | sample | compt | compp | comph => rfl

/-- A word that decodes is the word of what it decodes to. -/
theorem encode_of_decode_eq_ok {w : Byte} {i : Instr} (h : decode w = .ok i) : encode i = w := by
  obtain ⟨hw, hd⟩ | ⟨rfl, hd⟩ | ⟨rfl, hd⟩ | ⟨rfl, hd⟩ | ⟨rfl, hd⟩ | ⟨_, hd⟩ := decode_cases w <;>
    rw [hd] at h <;> cases h
  case inl =>
    apply BitVec.eq_of_toNat_eq
    rw [encode_init_toNat (by omega)]
    omega
  all_goals rfl

end Sys2Proof

namespace Sys2Proof.Machine

/-- Settles O4: `decode_encode` one way, `encode_of_decode_eq_ok` the other. -/
theorem decodeAndEncodeAgree : Obligations.DecodeAndEncodeAgree :=
  ⟨fun _ => decode_encode, fun _ _ h => ⟨wf_of_decode_eq_ok h, encode_of_decode_eq_ok h⟩⟩

/-- Settles O3: the written-out words are those the decoder compares with; INIT's by `decode_eq_init`. -/
theorem writtenOutWordsDecode : Obligations.WrittenOutWordsDecode :=
  ⟨decode_eq_init rfl, decode_eq_init rfl, rfl, rfl, rfl, rfl⟩

/-- Settles O5: `CMD[7:3] = 00010` says that the word without its operand is 2. -/
theorem allEightOperandsDecodeAsInit : Obligations.AllEightOperandsDecodeAsInit :=
  fun _ => decode_eq_init

/-- Settles O1: the input that is no longer pending is the head of the list. -/
theorem commandStepRunsDecodedInstr : Obligations.CommandStepRunsDecodedInstr := by
  intro s w rest i hi hd
  rw [step_of_decode_ok hi hd, takeInput, hi]
  rfl

/-- Settles O10: the 32 main control bytes and the 8 humidity control bytes. -/
theorem controlByteFields : Obligations.ControlByteFields := by
  unfold Obligations.ControlByteFields
  decide

end Sys2Proof.Machine
end

section
/-! The widths of `42_compensation.md` section 6: interval bounds carried through the rules of COMPT, COMPP and COMPH one
named intermediate after another, from the widths of the trims and the counts. -/

namespace Sys2Proof.Machine

/-! ### The bounds of a trim and of a product -/

/-- A two's complement value of `w + 1` bits. -/
theorem toInt_mem {w : Nat} (x : BitVec (w + 1)) : -2 ^ w ≤ x.toInt ∧ x.toInt ≤ 2 ^ w - 1 := by
  have hlo := BitVec.le_toInt x
  have hhi := BitVec.toInt_lt (x := x)
  simp only [Nat.add_sub_cancel] at hlo hhi
  omega

/-- An unsigned value of `w` bits. -/
theorem toNat_mem {w : Nat} (x : BitVec w) : (0 : Int) ≤ x.toNat ∧ (x.toNat : Int) ≤ 2 ^ w - 1 := by
  have hlt : (x.toNat : Int) < 2 ^ w := by exact_mod_cast x.isLt
  omega

/-- A multiple of one factor lies between its multiples of the other factor's bounds. -/
theorem mul_mem_of_right_mem (a : Int) {b lb hb : Int} (h : lb ≤ b ∧ b ≤ hb) :
    min (a * lb) (a * hb) ≤ a * b ∧ a * b ≤ max (a * lb) (a * hb) := by
  obtain ha | ha := le_total 0 a
  · exact ⟨min_le_of_left_le (mul_le_mul_of_nonneg_left h.1 ha), le_max_of_le_right (mul_le_mul_of_nonneg_left h.2 ha)⟩
  · exact ⟨min_le_of_right_le (mul_le_mul_of_nonpos_left h.2 ha), le_max_of_le_left (mul_le_mul_of_nonpos_left h.1 ha)⟩

/-- The product of two bounded integers lies between the products of the bounds. -/
theorem mul_mem_of_mem {a la ha b lb hb : Int} (h : la ≤ a ∧ a ≤ ha) (h' : lb ≤ b ∧ b ≤ hb) :
    min (min (la * lb) (ha * lb)) (min (la * hb) (ha * hb)) ≤ a * b ∧
      a * b ≤ max (max (la * lb) (ha * lb)) (max (la * hb) (ha * hb)) := by
  have hab := mul_mem_of_right_mem a h'
  have hlb := mul_mem_of_right_mem lb h
  have hhb := mul_mem_of_right_mem hb h
  simp only [mul_comm lb, mul_comm hb] at hlb hhb
  omega

/-- The square of a bounded integer. -/
theorem mul_self_mem_of_abs_le {a m : Int} (h : |a| ≤ m) : 0 ≤ a * a ∧ a * a ≤ m * m :=
  ⟨mul_self_nonneg a, (le_abs_self _).trans (abs_mul_le_of_abs_le h h)⟩

/-! ### COMPT -/

section Compt

variable (c : Calibration) (adcT : BitVec 20)

theorem tempCalc_a_mem : -131070 ≤ (tempCalc c adcT).a ∧ (tempCalc c adcT).a ≤ 131071 := by
  have hadc := toNat_mem adcT
  have ht1 := toNat_mem c.t1
  simp only [tempCalc, shr_eq_ediv, shl]
  omega

theorem tempCalc_var1_mem : -2097136 ≤ (tempCalc c adcT).var1 ∧ (tempCalc c adcT).var1 ≤ 2097120 := by
  have hmul := mul_mem_of_mem (tempCalc_a_mem c adcT) (toInt_mem c.t2)
  have hvar1 : (tempCalc c adcT).var1 = (tempCalc c adcT).a * c.t2.toInt / 2 ^ 11 := shr_eq_ediv _ _
  omega

theorem tempCalc_d_mem : -65535 ≤ (tempCalc c adcT).d ∧ (tempCalc c adcT).d ≤ 65535 := by
  have hadc := toNat_mem adcT
  have ht1 := toNat_mem c.t1
  simp only [tempCalc, shr_eq_ediv]
  omega

theorem tempCalc_var2_mem : -2097088 ≤ (tempCalc c adcT).var2 ∧ (tempCalc c adcT).var2 ≤ 2097024 := by
  have hsq := mul_self_mem_of_abs_le (abs_le.2 (tempCalc_d_mem c adcT))
  have hmul := mul_mem_of_mem (shr_mem_of_mem hsq 12) (toInt_mem c.t3)
  have hvar2 : (tempCalc c adcT).var2 =
      shr ((tempCalc c adcT).d * (tempCalc c adcT).d) 12 * c.t3.toInt / 2 ^ 14 := shr_eq_ediv _ _
  rw [shr_zero_left, show shr (65535 * 65535) 12 = 1048544 by decide] at hmul
  omega

theorem tempCalc_tFine_mem : -4194224 ≤ (tempCalc c adcT).tFine ∧ (tempCalc c adcT).tFine ≤ 4194144 := by
  have hvar1 := tempCalc_var1_mem c adcT
  have hvar2 := tempCalc_var2_mem c adcT
  have htFine : (tempCalc c adcT).tFine = (tempCalc c adcT).var1 + (tempCalc c adcT).var2 := rfl
  omega

theorem tempCalc_temp_mem : -81918 ≤ (tempCalc c adcT).temp ∧ (tempCalc c adcT).temp ≤ 81917 := by
  have htFine := tempCalc_tFine_mem c adcT
  have htemp : (tempCalc c adcT).temp = ((tempCalc c adcT).tFine * 5 + 128) / 2 ^ 8 := shr_eq_ediv _ _
  omega

end Compt

/-- Settles O29: the six rows, each from the rows before it. -/
theorem comptIntermediateRanges : Obligations.ComptIntermediateRanges :=
  fun c adcT => ⟨tempCalc_a_mem c adcT, tempCalc_var1_mem c adcT, tempCalc_d_mem c adcT, tempCalc_var2_mem c adcT,
    tempCalc_tFine_mem c adcT, tempCalc_temp_mem c adcT⟩

/-! ### COMPP up to the denominator, for every T_FINE that COMPT can produce -/

section Compp

variable (c : Calibration) {tFine : Int} (hf : -4194224 ≤ tFine ∧ tFine ≤ 4194144)
include hf

theorem pressDen_v_mem : -4322224 ≤ (pressDen c tFine).v ∧ (pressDen c tFine).v ≤ 4066144 := by
  have hv : (pressDen c tFine).v = tFine - 128000 := rfl
  omega

/-- `v * v` is at most the square of the larger bound of `v`. -/
theorem pressDen_v_mul_self_mem : 0 ≤ (pressDen c tFine).v * (pressDen c tFine).v ∧
    (pressDen c tFine).v * (pressDen c tFine).v ≤ 4322224 * 4322224 := by
  have hv := pressDen_v_mem c hf
  exact mul_self_mem_of_abs_le (abs_le.2 (by omega))

theorem pressDen_b1_mem :
    -612159334192775168 ≤ (pressDen c tFine).b1 ∧ (pressDen c tFine).b1 ≤ 612140652572468992 := by
  have hmul := mul_mem_of_mem (pressDen_v_mul_self_mem c hf) (toInt_mem c.p6)
  have hb1 : (pressDen c tFine).b1 = (pressDen c tFine).v * (pressDen c tFine).v * c.p6.toInt := rfl
  omega

theorem pressDen_b2_mem :
    -630722578396217344 ≤ (pressDen c tFine).b2 ∧ (pressDen c tFine).b2 ≤ 630704463298455296 := by
  have hb1 := pressDen_b1_mem c hf
  have hmul := mul_mem_of_mem (pressDen_v_mem c hf) (toInt_mem c.p5)
  have hb2 : (pressDen c tFine).b2 = (pressDen c tFine).b1 + (pressDen c tFine).v * c.p5.toInt * 2 ^ 17 := rfl
  omega

theorem pressDen_b3_mem :
    -631848478303059968 ≤ (pressDen c tFine).b3 ∧ (pressDen c tFine).b3 ≤ 631830328845559552 := by
  have hb2 := pressDen_b2_mem c hf
  have hp4 := toInt_mem c.p4
  have hb3 : (pressDen c tFine).b3 = (pressDen c tFine).b2 + c.p4.toInt * 2 ^ 35 := rfl
  omega

theorem pressDen_c1_mem : -2971348780548096 ≤ (pressDen c tFine).c1 ∧ (pressDen c tFine).c1 ≤ 2971293509298279 := by
  have hmul3 := mul_mem_of_mem (pressDen_v_mul_self_mem c hf) (toInt_mem c.p3)
  have hmul2 := mul_mem_of_mem (pressDen_v_mem c hf) (toInt_mem c.p2)
  have hc1 : (pressDen c tFine).c1 = (pressDen c tFine).v * (pressDen c tFine).v * c.p3.toInt / 2 ^ 8 +
      (pressDen c tFine).v * c.p2.toInt * 2 ^ 12 := congrArg (· + _) (shr_eq_ediv _ _)
  omega

theorem pressDen_c2_mem : -21595520787 ≤ (pressDen c tFine).c2 ∧ (pressDen c tFine).c2 ≤ 23742549986 := by
  have hc1 := pressDen_c1_mem c hf
  have hsum : 2 ^ 47 - 2971348780548096 ≤ 2 ^ 47 + (pressDen c tFine).c1 ∧
      2 ^ 47 + (pressDen c tFine).c1 ≤ 2 ^ 47 + 2971293509298279 := by omega
  have hmul := mul_mem_of_mem hsum (toNat_mem c.p1)
  rw [pressDen_c2, shr_eq_ediv]
  omega

end Compp

/-- Settles O30: the six rows, each from the rows before it. -/
theorem comppDenominatorRanges : Obligations.ComppDenominatorRanges :=
  fun c _ hlo hhi => ⟨pressDen_v_mem c ⟨hlo, hhi⟩, pressDen_b1_mem c ⟨hlo, hhi⟩, pressDen_b2_mem c ⟨hlo, hhi⟩,
    pressDen_b3_mem c ⟨hlo, hhi⟩, pressDen_c1_mem c ⟨hlo, hhi⟩, pressDen_c2_mem c ⟨hlo, hhi⟩⟩

/-! ### COMPH, for every T_FINE that COMPT can produce -/

section Comph

variable (c : Calibration) (adcH : BitVec 16) {tFine : Int} (hf : -4194224 ≤ tFine ∧ tFine ≤ 4194144)
include hf

theorem humCalc_h_mem : -4271024 ≤ (humCalc c adcH tFine).h ∧ (humCalc c adcH tFine).h ≤ 4117344 := by
  have hh : (humCalc c adcH tFine).h = tFine - 76800 := rfl
  omega

theorem humCalc_A_mem : -332443 ≤ (humCalc c adcH tFine).A ∧ (humCalc c adcH tFine).A ≤ 365112 := by
  have hadc := toNat_mem adcH
  have hh4 := toInt_mem c.h4
  have hmul := mul_mem_of_mem (toInt_mem c.h5) (humCalc_h_mem c adcH hf)
  have hA : (humCalc c adcH tFine).A = (adcH.toNat * 2 ^ 14 - c.h4.toInt * 2 ^ 20 -
      c.h5.toInt * (humCalc c adcH tFine).h + 16384) / 2 ^ 15 := shr_eq_ediv _ _
  omega

/-- The table has no row for `g1`; this is the range its row for `g3` rests on. -/
theorem humCalc_g1_mem : -529708 ≤ (humCalc c adcH tFine).g1 ∧ (humCalc c adcH tFine).g1 ≤ 533878 := by
  have hmul := mul_mem_of_mem (humCalc_h_mem c adcH hf) (toInt_mem c.h6)
  have hg1 : (humCalc c adcH tFine).g1 = (humCalc c adcH tFine).h * c.h6.toInt / 2 ^ 10 := shr_eq_ediv _ _
  omega

theorem humCalc_g2_mem : -499025 ≤ (humCalc c adcH tFine).g2 ∧ (humCalc c adcH tFine).g2 ≤ 545425 := by
  have hmul := mul_mem_of_mem (humCalc_h_mem c adcH hf) (toNat_mem c.h3)
  have hg2 : (humCalc c adcH tFine).g2 = (humCalc c adcH tFine).h * c.h3.toNat / 2 ^ 11 + 32768 :=
    congrArg (· + 32768) (shr_eq_ediv _ _)
  omega

theorem humCalc_g3_mem : -280047366 ≤ (humCalc c adcH tFine).g3 ∧ (humCalc c adcH tFine).g3 ≤ 286462784 := by
  have hmul := mul_mem_of_mem (humCalc_g1_mem c adcH hf) (humCalc_g2_mem c adcH hf)
  have hg3 : (humCalc c adcH tFine).g3 =
      (humCalc c adcH tFine).g1 * (humCalc c adcH tFine).g2 / 2 ^ 10 + 2097152 :=
    congrArg (· + 2097152) (shr_eq_ediv _ _)
  omega

theorem humCalc_B_mem : -572925568 ≤ (humCalc c adcH tFine).B ∧ (humCalc c adcH tFine).B ≤ 572908084 := by
  have hmul := mul_mem_of_mem (humCalc_g3_mem c adcH hf) (toInt_mem c.h2)
  have hB : (humCalc c adcH tFine).B = ((humCalc c adcH tFine).g3 * c.h2.toInt + 8192) / 2 ^ 14 := shr_eq_ediv _ _
  omega

theorem humCalc_x_mem :
    -209181999983616 ≤ (humCalc c adcH tFine).x ∧ (humCalc c adcH tFine).x ≤ 209175616365408 := by
  have hmul := mul_mem_of_mem (humCalc_A_mem c adcH hf) (humCalc_B_mem c adcH hf)
  have hx : (humCalc c adcH tFine).x = (humCalc c adcH tFine).A * (humCalc c adcH tFine).B := rfl
  omega

theorem humCalc_y_mem :
    -5074308692883701742 ≤ (humCalc c adcH tFine).y ∧ (humCalc c adcH tFine).y ≤ 209175616365408 := by
  have hx := humCalc_x_mem c adcH hf
  have hshr : |shr (humCalc c adcH tFine).x 15| ≤ 6383728027 := by
    rw [shr_eq_ediv, abs_le]
    omega
  have hsq := shr_mem_of_mem (mul_self_mem_of_abs_le hshr) 7
  have hmul := mul_mem_of_mem hsq (toNat_mem c.h1)
  have hy : (humCalc c adcH tFine).y = (humCalc c adcH tFine).x -
      shr (shr (humCalc c adcH tFine).x 15 * shr (humCalc c adcH tFine).x 15) 7 * c.h1.toNat / 2 ^ 4 :=
    congrArg ((humCalc c adcH tFine).x - ·) (shr_eq_ediv _ _)
  rw [shr_zero_left, show shr (6383728027 * 6383728027) 7 = 318374871271135255 by decide] at hmul
  omega

end Comph

/-- Settles O31: the seven rows, each from the rows before it and from `g1`. -/
theorem comphIntermediateRanges : Obligations.ComphIntermediateRanges :=
  fun c adcH _ hlo hhi => ⟨humCalc_h_mem c adcH ⟨hlo, hhi⟩, humCalc_A_mem c adcH ⟨hlo, hhi⟩,
    humCalc_g2_mem c adcH ⟨hlo, hhi⟩, humCalc_g3_mem c adcH ⟨hlo, hhi⟩, humCalc_B_mem c adcH ⟨hlo, hhi⟩,
    humCalc_x_mem c adcH ⟨hlo, hhi⟩, humCalc_y_mem c adcH ⟨hlo, hhi⟩⟩
end Sys2Proof.Machine
end

section
/-! The frame of the five operations (`10_state.md` R27 to R29, R35, R52, R99; `60_exceptions.md` R136, R140): what each
operation leaves unchanged, what it adds to the trace, what a refusal leaves, and that a step always answers. -/

namespace Sys2Proof.Machine

open Sys2Proof.Claims

variable {s t : State} {i : Instr} {osr : Nat}

/-! ### The registers -/

/-- Settles O39: the cases of each operation, and `exec_sameCalibration` for the trims and OSR. -/
theorem frameOfTheFiveOperations : Obligations.FrameOfTheFiveOperations := by
  intro i s t h
  refine ⟨⟨exec_config h, ?inputs⟩, fun hi => exec_sameCalibration hi h, ?registers⟩
  all_goals
    cases i with
    | init osr =>
      obtain ⟨_, rfl⟩ | ⟨_, _, rfl⟩ |
        ⟨_, _, ⟨_, rfl⟩ | ⟨_, _, rfl⟩ | ⟨_, _, _, rfl⟩ | ⟨_, _, _, rfl⟩⟩ := execInit_cases h <;> simp
    | sample =>
      obtain ⟨_, rfl⟩ | ⟨_, ⟨_, rfl⟩ | ⟨_, _, rfl⟩ | ⟨_, _, _, rfl⟩ | ⟨_, _, _, rfl⟩⟩ := execSample_cases h <;> simp
    | compt => obtain ⟨_, rfl⟩ | ⟨_, rfl⟩ := execCompt_cases h <;> simp
    | compp => obtain ⟨_, rfl⟩ | ⟨_, rfl⟩ := execCompp_cases h <;> simp
    | comph => obtain ⟨_, rfl⟩ | ⟨_, rfl⟩ := execComph_cases h <;> simp

/-- Settles O37: INIT and COMPP by the frame, SAMPLE by `execSample_admitted`; COMPT and COMPH by their cases. A COMPH
refused in Sampling is one that found TF_VALID clear. -/
theorem tfValidWriters : Obligations.TfValidWriters := by
  intro i s t h
  have hframe : i = .compp ∨ (∃ osr, i = .init osr) → t.tfValid = s.tfValid := by
    obtain ⟨_, _, _, _, _, _, _, hvalid⟩ := frameOfTheFiveOperations i s t h
    exact hvalid
  cases i with
  | init osr => simpa using hframe
  | sample =>
    by_cases hp : s.phase = .uninitialized
    · rw [exec_sample_refused hp] at h
      cases h
      simp [hp]
    · obtain ⟨_, hvalid⟩ := execSample_admitted hp h
      simp [hp, hvalid]
  | compt => obtain ⟨hp, rfl⟩ | ⟨hp, rfl⟩ := execCompt_cases h <;> simp [hp]
  | compp => simpa using hframe
  | comph =>
    obtain ⟨ha, rfl⟩ | ⟨⟨hp, _⟩, rfl⟩ := execComph_cases h
    · simpa using fun hv hp => ha ⟨hp, hv⟩
    · simp [hp]

/-! ### The trace -/

@[simp] theorem allowedAccess_readBlockA (ok : Bool) : allowedAccess s (.init osr) (readBlockA s ok) := ⟨ok, .inl rfl⟩

@[simp] theorem allowedAccess_readBlockB (ok : Bool) : allowedAccess s (.init osr) (readBlockB s ok) :=
  ⟨ok, .inr (.inl rfl)⟩

@[simp] theorem allowedAccess_writeInitControl (ok : Bool) : allowedAccess s (.init osr) (writeInitControl s ok) :=
  ⟨ok, .inr (.inr rfl)⟩

@[simp] theorem allowedAccess_writeHumidityControl (ok : Bool) : allowedAccess s .sample (writeHumidityControl s ok) :=
  .inr ⟨ok, .inl rfl⟩

@[simp] theorem allowedAccess_writeForcedControl (ok : Bool) : allowedAccess s .sample (writeForcedControl s ok) :=
  .inr ⟨ok, .inr (.inl rfl)⟩

@[simp] theorem allowedAccess_settleWait : allowedAccess s .sample (settleWait s) := .inl rfl

@[simp] theorem allowedAccess_readBurst (ok : Bool) : allowedAccess s .sample (readBurst s ok) :=
  .inr ⟨ok, .inr (.inr rfl)⟩

/-- An operation that leaves the trace adds no access. -/
theorem added_nil (h : t.trace = s.trace) :
    ∃ added, t.trace = s.trace ++ added ∧ ∀ e ∈ added, allowedAccess s i e :=
  ⟨[], by simp [h], by simp⟩

/-- INIT's transactions are its own, as many of them as it makes (R83). -/
theorem exec_init_added (h : exec (.init osr) s = .next t) :
    ∃ added, t.trace = s.trace ++ added ∧ ∀ e ∈ added, allowedAccess s (.init osr) e := by
  by_cases hp : s.phase = .uninitialized
  case neg =>
    rw [exec_init_refused hp] at h
    cases h
    exact added_nil rfl
  by_cases hm : legalMode osr = true
  case neg =>
    rw [exec_init_illegalMode hp (by simpa using hm)] at h
    cases h
    exact added_nil rfl
  obtain ⟨hlo, hhi⟩ := legalMode_iff.1 hm
  obtain ⟨t', h', htrace⟩ := initBusTransactionsInOrder s osr hp hlo hhi
  obtain rfl : t' = t := Host.Outcome.next.inj (h'.symm.trans h)
  refine ⟨_, htrace, ?_⟩
  split_ifs <;> simp

/-- SAMPLE's transactions and its wait are its own, as many of them as it makes (R92, R94). -/
theorem exec_sample_added (h : exec .sample s = .next t) :
    ∃ added, t.trace = s.trace ++ added ∧ ∀ e ∈ added, allowedAccess s .sample e := by
  by_cases hp : s.phase = .uninitialized
  case pos =>
    rw [exec_sample_refused hp] at h
    cases h
    exact added_nil rfl
  obtain ⟨t', h', htrace⟩ := sampleBusTransactionsInOrder s hp
  obtain rfl : t' = t := Host.Outcome.next.inj (h'.symm.trans h)
  refine ⟨_, htrace, ?_⟩
  split_ifs <;> simp

/-- Settles O40: INIT and SAMPLE by the order of their transactions; the other three leave the trace. -/
theorem onlyTheSixAccesses : Obligations.OnlyTheSixAccesses := by
  intro i s t h
  cases i with
  | init osr => exact exec_init_added h
  | sample => exact exec_sample_added h
  | compt | compp | comph =>
    obtain ⟨hsame, _, _⟩ := exec_compensation_bus (by simp) h
    exact added_nil hsame

/-! ### Refusals, and that a step always answers -/

/-- The outcomes that are no completion and no bus failure: the operation has not begun (R136). -/
def IsRefusal (f : Status) : Prop := f = .sequenceError ∨ f = .configurationError ∨ f = .illegalCommand

@[simp] theorem not_isRefusal_ok : ¬IsRefusal .ok := by simp [IsRefusal]

@[simp] theorem not_isRefusal_busError : ¬IsRefusal .busError := by simp [IsRefusal]

/-- An operation that reports a refusal has written STATUS only (R136). -/
theorem exec_eq_raise_of_isRefusal (h : exec i s = .next t) (hf : IsRefusal t.status) : t = raise t.status s := by
  cases i with
  | init osr =>
    obtain ⟨_, rfl⟩ | ⟨_, _, rfl⟩ |
      ⟨_, _, ⟨_, rfl⟩ | ⟨_, _, rfl⟩ | ⟨_, _, _, rfl⟩ | ⟨_, _, _, rfl⟩⟩ := execInit_cases h
    case inl | inr.inl => rfl
    all_goals simp at hf
  | sample =>
    obtain ⟨_, rfl⟩ | ⟨_, ⟨_, rfl⟩ | ⟨_, _, rfl⟩ | ⟨_, _, _, rfl⟩ | ⟨_, _, _, rfl⟩⟩ := execSample_cases h
    case inl => rfl
    all_goals simp at hf
  | compt =>
    obtain ⟨_, rfl⟩ | ⟨_, rfl⟩ := execCompt_cases h
    · rfl
    · simp at hf
  | compp =>
    obtain ⟨_, rfl⟩ | ⟨_, rfl⟩ := execCompp_cases h
    · rfl
    · simp at hf
  | comph =>
    obtain ⟨_, rfl⟩ | ⟨_, rfl⟩ := execComph_cases h
    · rfl
    · simp at hf

/-- Settles O33: an illegal word raises IllegalCommand and nothing else; a legal one by `exec_eq_raise_of_isRefusal`. -/
theorem refusalsChangeStatusOnly : Obligations.RefusalsChangeStatusOnly := by
  intro s t w rest hin h hf
  have ht : t = raise t.status (takeInput s) := by
    cases hd : decode w with
    | error r =>
      rw [step_of_decode_error hin hd] at h
      cases h
      rfl
    | ok i =>
      rw [step_of_decode_ok hin hd] at h
      exact exec_eq_raise_of_isRefusal h hf
  calc t = raise t.status (takeInput s) := ht
    _ = { s with inputs := rest, status := t.status } := by simp [raise, takeInput, hin]

/-- Settles O35: a step waits, resets, raises IllegalCommand or executes an operation, and each of these answers. -/
theorem noFaultStopsTheBlock : Obligations.NoFaultStopsTheBlock := by
  refine ⟨fun s => ?_, exec_answers_next⟩
  match hin : s.inputs with
  | [] => exact ⟨s, by simp [step, hin]⟩
  | .reset :: _ => exact ⟨_, step_of_reset hin⟩
  | .command w :: _ =>
    cases hd : decode w with
    | error r => exact ⟨_, step_of_decode_error hin hd⟩
    | ok i =>
      rw [step_of_decode_ok hin hd]
      exact exec_answers_next i _

/-! ### Reset -/

/-- A reset leaves a value in PHASE, STATUS and TF_VALID only (R38, R150). -/
theorem observe_resetBlock_eq_none {r : Reg} (hp : r ≠ .phase) (hs : r ≠ .status) (hv : r ≠ .tfValid) :
    observe (resetBlock s) r = none := by
  rw [observe_eq_none_iff]
  cases r with
  | phase => exact absurd rfl hp
  | status => exact absurd rfl hs
  | tfValid => exact absurd rfl hv
  | _ => rfl

/-- Settles O42: the step on a reset; what it leaves are the laws of `resetBlock`. -/
theorem resetStartsNewInstance : Obligations.ResetStartsNewInstance := by
  intro s rest hin
  refine ⟨_, step_of_reset hin, rfl, rfl, rfl, fun r => observe_resetBlock_eq_none, ?_⟩
  simp [hin]

/-- Settles O43: the reset state is one that a reset of the block leaves. -/
theorem resetValues : Obligations.ResetValues :=
  ⟨rfl, rfl, rfl, fun _ => observe_resetBlock_eq_none (s := State.reset)⟩

end Sys2Proof.Machine
end

section
/-! The invariants of every step (`10_state.md` R23 to R29, R33, R34): what each operation does to the lifecycle, the
freshness of T_FINE and the ranges, and the passage from the operations to the steps and the reached states. -/

namespace Sys2Proof.Machine

variable {s t : State} {i : Instr} {osr : Nat}

/-! ### From the operations to the step -/

/-- What registers promise holds after every step, if a reset establishes it and taking an input, a fault's STATUS write
and every operation keep it. -/
theorem step_keeps_of_exec_keeps {P : State → Prop} (hreset : ∀ s, P (resetBlock s))
    (htake : ∀ s, P s → P (takeInput s)) (hraise : ∀ f s, P s → P (raise f s))
    (hexec : ∀ i s t, P s → exec i s = .next t → P t) (hP : P s) (h : step s = .next t) : P t := by
  obtain ⟨_, rfl⟩ | ⟨_, _, rfl⟩ | ⟨_, _, _, _, _, rfl⟩ | ⟨_, _, i, _, _, he⟩ := step_cases h
  · exact hP
  · exact hreset _
  · exact hraise _ _ (htake _ hP)
  · exact hexec _ _ _ (htake _ hP) he

/-! ### The lifecycle -/

theorem lifecycle_resetBlock (s : State) : Lifecycle (resetBlock s) := by
  simp [Lifecycle]

/-- In Uninitialized TF_VALID is 0 (R29). -/
theorem Lifecycle.tfValid_of_uninitialized (hl : Lifecycle s) (hp : s.phase = .uninitialized) : s.tfValid = false := by
  obtain ⟨_, _, _, hvalid⟩ := hl
  by_contra hv
  obtain ⟨hsampling, _⟩ := hvalid (by simpa using hv)
  simp [hp] at hsampling

/-- INIT commits a legal mode, and it is admitted only where TF_VALID is 0. -/
theorem execInit_keeps_lifecycle (hl : Lifecycle s) (h : execInit osr s = .next t) : Lifecycle t := by
  obtain ⟨_, rfl⟩ | ⟨_, _, rfl⟩ |
    ⟨hp, hm, ⟨_, rfl⟩ | ⟨_, _, rfl⟩ | ⟨_, _, _, rfl⟩ | ⟨_, _, _, rfl⟩⟩ := execInit_cases h
  case inr.inr.inr.inr.inr =>
    have hv := hl.tfValid_of_uninitialized hp
    have hlegal := legalMode_iff.1 hm
    have hosr : osr % 8 = osr := Nat.mod_eq_of_lt (by omega)
    simpa [Lifecycle, hv, hosr] using hlegal
  all_goals exact hl

/-- An admitted SAMPLE leaves TF_VALID clear, and PHASE where a calibration is held. -/
theorem execSample_keeps_lifecycle (hl : Lifecycle s) (h : execSample s = .next t) : Lifecycle t := by
  obtain ⟨_, hheld, _, _⟩ := id hl
  obtain ⟨_, rfl⟩ | ⟨hp, hbus⟩ := execSample_cases h
  · exact hl
  · obtain ⟨_, rfl⟩ | ⟨_, _, rfl⟩ | ⟨_, _, _, rfl⟩ | ⟨_, _, _, rfl⟩ := hbus <;> simpa [Lifecycle] using hheld hp

/-- Every operation keeps the lifecycle; COMPT sets TF_VALID in Sampling only, COMPH clears it when it leaves Sampling. -/
theorem exec_keeps_lifecycle (hl : Lifecycle s) (h : exec i s = .next t) : Lifecycle t := by
  cases i with
  | init osr => exact execInit_keeps_lifecycle hl h
  | sample => exact execSample_keeps_lifecycle hl h
  | compt =>
    obtain ⟨_, rfl⟩ | ⟨hp, rfl⟩ := execCompt_cases h
    · exact hl
    · obtain ⟨_, hheld, hraw, _⟩ := hl
      simpa [Lifecycle, hp] using ⟨hheld (by simp [hp]), hraw hp⟩
  | compp =>
    obtain ⟨_, rfl⟩ | ⟨⟨hp, _⟩, rfl⟩ := execCompp_cases h
    · exact hl
    · simpa [Lifecycle, hp] using hl
  | comph =>
    obtain ⟨_, rfl⟩ | ⟨⟨hp, _⟩, rfl⟩ := execComph_cases h
    · exact hl
    · obtain ⟨_, hheld, _, _⟩ := hl
      simpa [Lifecycle] using hheld (by simp [hp])

/-- Settles O46: `exec_keeps_lifecycle`; a reset establishes it, and it does not speak of STATUS or the inputs. -/
theorem everyStepKeepsLifecycle : Obligations.EveryStepKeepsLifecycle :=
  fun _ _ => step_keeps_of_exec_keeps lifecycle_resetBlock (fun _ => id) (fun _ _ => id)
    fun _ _ _ => exec_keeps_lifecycle

/-! ### The freshness of T_FINE -/

theorem freshTFine_resetBlock (s : State) : FreshTFine (resetBlock s) := nofun

/-- Only COMPT sets TF_VALID, and it computes T_FINE then. INIT, which alone replaces the trims, is admitted only where
TF_VALID is 0; SAMPLE, which alone replaces the raw sample, clears it. -/
theorem exec_keeps_freshTFine (hl : Lifecycle s) (hfresh : FreshTFine s) (h : exec i s = .next t) : FreshTFine t := by
  cases i with
  | init osr =>
    obtain ⟨_, rfl⟩ | ⟨_, _, rfl⟩ |
      ⟨hp, _, ⟨_, rfl⟩ | ⟨_, _, rfl⟩ | ⟨_, _, _, rfl⟩ | ⟨_, _, _, rfl⟩⟩ := execInit_cases h
    case inr.inr.inr.inr.inr =>
      have hv := hl.tfValid_of_uninitialized hp
      simp [FreshTFine, hv]
    all_goals exact hfresh
  | sample =>
    obtain ⟨_, rfl⟩ | ⟨hp, _⟩ := execSample_cases h
    · exact hfresh
    · obtain ⟨_, hv⟩ := execSample_admitted hp h
      simp [FreshTFine, hv]
  | compt =>
    obtain ⟨_, rfl⟩ | ⟨_, rfl⟩ := execCompt_cases h
    · exact hfresh
    · exact fun _ => rfl
  | compp => obtain ⟨_, rfl⟩ | ⟨_, rfl⟩ := execCompp_cases h <;> exact hfresh
  | comph =>
    obtain ⟨_, rfl⟩ | ⟨_, rfl⟩ := execComph_cases h
    · exact hfresh
    · exact nofun

/-- The lifecycle and the freshness of T_FINE together: the second is kept only with the first. -/
theorem step_keeps_lifecycle_and_freshTFine (hs : Lifecycle s ∧ FreshTFine s) (h : step s = .next t) :
    Lifecycle t ∧ FreshTFine t := by
  refine step_keeps_of_exec_keeps (P := fun s => Lifecycle s ∧ FreshTFine s) ?reset (fun _ => id) (fun _ _ => id)
    ?exec hs h
  case reset => exact fun s => ⟨lifecycle_resetBlock s, freshTFine_resetBlock s⟩
  case exec => exact fun _ _ _ ⟨hl, hfresh⟩ he => ⟨exec_keeps_lifecycle hl he, exec_keeps_freshTFine hl hfresh he⟩

/-- Settles O47: kept together with the lifecycle. -/
theorem everyStepKeepsTFineFresh : Obligations.EveryStepKeepsTFineFresh := by
  intro s t hl hfresh h
  obtain ⟨_, hfresh'⟩ := step_keeps_lifecycle_and_freshTFine ⟨hl, hfresh⟩ h
  exact hfresh'

/-! ### The ranges -/

theorem inRange_resetBlock (s : State) : InRange (resetBlock s) := by
  simp [InRange]

/-- COMPT writes T_FINE and TEMP in the ranges of section 6, COMPH writes a clamped HUM; by the frame no other operation
writes one of the three. -/
theorem exec_keeps_inRange (hr : InRange s) (h : exec i s = .next t) : InRange t := by
  cases i with
  | compt =>
    obtain ⟨_, rfl⟩ | ⟨_, rfl⟩ := execCompt_cases h
    · simpa [InRange] using hr
    · obtain ⟨_, _, hhum⟩ := hr
      exact ⟨tempCalc_tFine_mem s.cal s.raw.adcT, tempCalc_temp_mem s.cal s.raw.adcT, hhum⟩
  | comph =>
    obtain ⟨_, rfl⟩ | ⟨_, rfl⟩ := execComph_cases h
    · simpa [InRange] using hr
    · obtain ⟨htFine, htemp, _⟩ := hr
      exact ⟨htFine, htemp, humCalc_hum_mem s.cal s.raw.adcH s.tFine⟩
  | init | sample | compp =>
    obtain ⟨_, _, _, hcompt, _, hcomph, _⟩ := frameOfTheFiveOperations _ s t h
    obtain ⟨htFine, htemp, _⟩ := hcompt (by simp)
    obtain ⟨hhum, _⟩ := hcomph (by simp)
    simpa [InRange, htFine, htemp, hhum] using hr

/-- Settles O48: `exec_keeps_inRange`; a reset leaves zeros (log 1). -/
theorem everyStepKeepsRanges : Obligations.EveryStepKeepsRanges :=
  fun _ _ => step_keeps_of_exec_keeps inRange_resetBlock (fun _ => id) (fun _ _ => id) fun _ _ _ => exec_keeps_inRange

/-! ### Reset and the reached states -/

/-- The reset state is one that a reset of the block leaves. -/
theorem resetBlock_reset : resetBlock State.reset = State.reset := rfl

/-- So is every state in which a run begins. -/
theorem resetBlock_of_started (h : Started s) : resetBlock s = s := by
  rw [h]
  rfl

/-- Settles O49: the reset state is the block reset. -/
theorem invariantsHoldAtReset : Obligations.InvariantsHoldAtReset := by
  unfold Obligations.InvariantsHoldAtReset
  rw [← resetBlock_reset]
  exact ⟨lifecycle_resetBlock _, freshTFine_resetBlock _, inRange_resetBlock _⟩

/-- Settles O50: a run starts with the block reset, and every step keeps the three invariants. -/
theorem reachableStatesMeetInvariants : Obligations.ReachableStatesMeetInvariants := by
  refine fun s => reachable_of_kept (P := fun s => Lifecycle s ∧ FreshTFine s ∧ InRange s) (fun s hs => ?start)
    fun s t ⟨hl, hfresh, hr⟩ h => ?step
  case start =>
    rw [← resetBlock_of_started hs]
    exact ⟨lifecycle_resetBlock s, freshTFine_resetBlock s, inRange_resetBlock s⟩
  case step =>
    exact ⟨everyStepKeepsLifecycle s t hl h, everyStepKeepsTFineFresh s t hl hfresh h, everyStepKeepsRanges s t hr h⟩

end Sys2Proof.Machine
end

section
/-! Runs (`30_encoding.md` R74; `70_reset_and_hazards.md` section 2): where the expansion COMP stops, and the boot order
with one poll carried out step by step. -/

namespace Sys2Proof.Machine

variable {s t : State} {i : Instr} {rest : List Instr}

/-! ### The expansion -/

/-- After an operation that faults nothing of the rest is issued. -/
theorem runUntilFault_cons_of_fault (h : exec i s = .next t) (hfault : t.status ≠ .ok) :
    runUntilFault (i :: rest) s = .next t := by
  simp [runUntilFault, h, hfault]

/-- Outside Sampling the first operation of COMP faults. -/
theorem runUntilFault_pseudoComp_refused (hp : s.phase ≠ .sampling) :
    runUntilFault Instr.pseudoComp s = .next (raise .sequenceError s) :=
  runUntilFault_cons_of_fault (exec_compt_refused hp) (by simp)

/-- Settles O52: the state COMP ends in is known; an expansion goes on or stops as its first operation's STATUS says. -/
theorem compStopsAtFirstFault : Obligations.CompStopsAtFirstFault := by
  refine ⟨rfl, fun s => ⟨fun hp => ?completes, runUntilFault_pseudoComp_refused, fun i rest t h =>
    ⟨runUntilFault_cons_of_fault h, runUntilFault_cons_of_ok h⟩⟩⟩
  case completes =>
    refine ⟨_, runUntilFault_pseudoComp hp, ?_⟩
    simp

/-! ### Boot and one poll -/

@[simp] theorem busOk_complete (s : State) (k : Nat) : busOk (complete s) k = busOk s k := rfl

@[simp] theorem busOk_commitCalibration (osr : Nat) (a : ByteVec 26) (b : ByteVec 7) (s : State) (k : Nat) :
    busOk (commitCalibration osr a b s) k = busOk s k := rfl

/-- The state after an INIT that completes (R85). -/
abbrev afterInit (osr : Nat) (s : State) : State :=
  complete (commitCalibration osr (fun i => busByte s 0 i) (fun i => busByte s 1 i) (afterInitControl true s))

/-- The STATUS log of a run whose first input is a command that completes. -/
theorem statusLog_succ_of_command {w : Byte} {pending : List HostInput} (hin : s.inputs = .command w :: pending)
    (hd : decode w = .ok i) (h : exec i (takeInput s) = .next t) (hok : t.status = .ok) (k : Nat) :
    statusLog (k + 1) s = .ok :: statusLog k t := by
  simp [statusLog, step_of_decode_ok hin hd, h, hok]

/-- A poll from Calibrated or Sampling, presented word by word, its three transactions completing (R75). -/
theorem statusLog_poll {pending : List HostInput} (hp : s.phase ≠ .uninitialized)
    (hin : s.inputs = [.command 0x20, .command 0x30, .command 0x40, .command 0x50] ++ pending)
    (h0 : busOk s 0 = true) (h1 : busOk s 1 = true) (h2 : busOk s 2 = true) :
    statusLog 4 s = [.ok, .ok, .ok, .ok] := by
  calc statusLog 4 s
      = .ok :: statusLog 3 (afterSample (takeInput s)) :=
        statusLog_succ_of_command hin rfl (exec_sample_completes hp h0 h1 h2) rfl 3
    _ = .ok :: .ok :: statusLog 2 (afterCompt (takeInput (afterSample (takeInput s)))) :=
        congrArg _ (statusLog_succ_of_command (congrArg List.tail hin) rfl (exec_compt_admitted rfl) rfl 2)
    _ = .ok :: .ok :: .ok ::
          statusLog 1 (afterCompp (takeInput (afterCompt (takeInput (afterSample (takeInput s)))))) :=
        congrArg (_ :: _ :: ·) (statusLog_succ_of_command (congrArg (·.tail.tail) hin) rfl
          (exec_compp_admitted rfl rfl) rfl 1)
    _ = [.ok, .ok, .ok, .ok] :=
        congrArg (_ :: _ :: _ :: ·) (statusLog_succ_of_command (congrArg (·.tail.tail.tail) hin) rfl
          (exec_comph_admitted rfl rfl) rfl 0)

/-- Settles O53: INIT completes from the start and leaves Calibrated; its three transactions are used up, so the poll
makes the next three. -/
theorem bootAndPollRunWithoutFault : Obligations.BootAndPollRunWithoutFault := by
  intro s m rest hs hlo hhi hin hbus
  have hp : s.phase = .uninitialized := by rw [← resetBlock_of_started hs, resetBlock_phase]
  have hd : decode (encode (.init m)) = .ok (.init m) := decode_encode (by simp [Instr.wf]; omega)
  have hinit : exec (.init m) (takeInput s) = .next (afterInit m (takeInput s)) :=
    exec_init_completes hp (legalMode_iff.2 ⟨hlo, hhi⟩) (hbus 0 (by decide)) (hbus 1 (by decide)) (hbus 2 (by decide))
  rw [statusLog_succ_of_command hin hd hinit rfl, statusLog_poll (by simp) (congrArg List.tail hin)]
  all_goals simp [hbus]

end Sys2Proof.Machine
end

section
/-! The host's derived quantities (`44_derived_quantities.md` R121 to R129): the dew point and the normalized pressure over
the reals with their decimal constants, and one `getValues()` call. -/

namespace Sys2Proof.Machine

open Sys2Proof.Claims

/-! ### The dew point -/

/-- The exponent term `k` of R123. -/
noncomputable def dewExponent (tC rH : ℝ) : ℝ := Real.log (rH / 100) + 17.62 * tC / (243.12 + tC)

/-- The model's fractions are the decimals of R123: for positive humidity the two checks of R128, then the formula. -/
theorem dewPoint_of_pos (tC : ℝ) {rH : ℝ} (h : 0 < rH) : dewPoint Real.log tC rH =
    if 243.12 + tC = 0 then .error .outsideDomain
    else if 17.62 - dewExponent tC rH = 0 then .error .outsideDomain
    else .ok (243.12 * dewExponent tC rH / (17.62 - dewExponent tC rH)) := by
  have h243 : (24312 / 100 : ℝ) = 243.12 := by norm_num
  have h17 : (1762 / 100 : ℝ) = 17.62 := by norm_num
  rw [dewPoint, if_neg h.not_ge, h243, h17]
  rfl

/-- At 100 % relative humidity the logarithm is 0. -/
theorem dewExponent_hundred (tC : ℝ) : dewExponent tC 100 = 17.62 * tC / (243.12 + tC) := by
  simp [dewExponent]

/-- Then the formula gives back the temperature, and its divisor is not 0. -/
theorem dewPoint_hundred {tC : ℝ} (h : 243.12 + tC ≠ 0) : dewPoint Real.log tC 100 = .ok tC := by
  have hdiv : 17.62 - dewExponent tC 100 = 17.62 * 243.12 / (243.12 + tC) := by
    rw [dewExponent_hundred]
    field_simp
    ring
  have hne : 17.62 - dewExponent tC 100 ≠ 0 := by
    rw [hdiv]
    exact div_ne_zero (by norm_num) h
  rw [dewPoint_of_pos tC (by norm_num), if_neg h, if_neg hne, hdiv, dewExponent_hundred]
  congr 1
  field_simp

/-- Settles O55: the formula and the two gaps are the branches of `dewPoint_of_pos`. -/
theorem dewPointMagnus : Obligations.DewPointMagnus := by
  refine ⟨fun tC rH h hd (hk : dewExponent tC rH ≠ 17.62) => ?formula, fun tC => dewPoint_hundred,
    fun rH h => ?temperatureGap, fun tC rH h hd (hk : dewExponent tC rH = 17.62) => ?exponentGap⟩
  case formula =>
    rw [dewPoint_of_pos tC h, if_neg hd, if_neg (sub_ne_zero.2 hk.symm)]
    rfl
  case temperatureGap => rw [dewPoint_of_pos _ h, if_pos (add_neg_cancel _)]
  case exponentGap => rw [dewPoint_of_pos tC h, if_neg hd, if_pos (sub_eq_zero.2 hk.symm)]

/-! ### The normalized pressure -/

/-- The model's fractions are the decimals of R125. -/
theorem normPressureHPa_of_le {alt : ℝ} (h : alt ≤ 44330) : normPressureHPa (fun x y : ℝ => x ^ y) alt =
    .ok (1013.25 * (1 - alt / 44330) ^ (5.255 : ℝ)) := by
  have h1013 : (101325 / 100 : ℝ) = 1013.25 := by norm_num
  have h5 : (5255 / 1000 : ℝ) = 5.255 := by norm_num
  rw [normPressureHPa, if_neg h.not_gt, h1013, h5]

/-- Settles O57: the formula, whose power is 1 at altitude 0 and 0 at 44330 m; above that the first check. -/
theorem normalizedPressure : Obligations.NormalizedPressure := by
  refine ⟨fun alt => normPressureHPa_of_le, ?ground, ?top, fun alt h => if_pos h⟩
  case ground => rw [normPressureHPa_of_le (by norm_num), zero_div, sub_zero, Real.one_rpow, mul_one]
  case top =>
    rw [normPressureHPa_of_le le_rfl, div_self (by norm_num), sub_self, Real.zero_rpow (by norm_num), mul_zero]

/-! ### getValues -/

variable {s t : State}

/-- An expansion answers: every operation of it does. -/
theorem runUntilFault_answers_next (p : List Instr) (s : State) : ∃ t, runUntilFault p s = .next t := by
  induction p generalizing s with
  | nil => exact ⟨s, rfl⟩
  | cons i rest ih =>
    obtain ⟨t, h⟩ := exec_answers_next i s
    by_cases hok : t.status = .ok
    · rw [runUntilFault_cons_of_ok h hok]
      exact ih t
    · exact ⟨t, runUntilFault_cons_of_fault h hok⟩

section Call

variable (ln : ℝ → ℝ) (pow : ℝ → ℝ → ℝ) (alt : ℝ) (h : runUntilFault Instr.pseudoPoll s = .next t)
include h

theorem getValues_of_fault (hfault : t.status ≠ .ok) :
    getValues ln pow alt s = .next (t, .error (.block t.status)) := by
  simp [getValues, h, hfault]

theorem getValues_of_ok (hok : t.status = .ok) :
    getValues ln pow alt s = .next (t, .ok (measurement ln pow alt t)) := by
  simp [getValues, h, hok]

end Call

/-- A bus failure is what an admitted SAMPLE reports as BusError (R97). -/
theorem exec_sample_status_busError (hp : s.phase ≠ .uninitialized)
    (hbus : busOk s 0 = false ∨ busOk s 1 = false ∨ busOk s 2 = false) (h : exec .sample s = .next t) :
    t.status = .busError := by
  have hfail : meetsBusFailure s .sample = true := by simpa [meetsBusFailure, or_assoc] using hbus
  rw [exec_status h]
  simp [firstCause, hasIllegalMode, hp, hfail]

/-- Settles O58: POLL answers, and its STATUS decides; SAMPLE is its first operation, so a BusError ends it there. -/
theorem getValuesFollowsPoll : Obligations.GetValuesFollowsPoll := by
  refine fun ln pow alt s => ⟨?call, fun hp hbus => ?busError⟩
  case call =>
    obtain ⟨t, h⟩ := runUntilFault_answers_next Instr.pseudoPoll s
    exact ⟨t, h, getValues_of_fault ln pow alt h, fun hok =>
      ⟨_, getValues_of_ok ln pow alt h hok, rfl, fahrenheit_eq_decimal _, rfl, rfl, rfl, rfl, rfl⟩⟩
  case busError =>
    obtain ⟨t, h⟩ := exec_answers_next .sample s
    have hbusError := exec_sample_status_busError hp hbus h
    have hfault : t.status ≠ .ok := by simp [hbusError]
    have hpoll : runUntilFault Instr.pseudoPoll s = .next t := runUntilFault_cons_of_fault h hfault
    exact ⟨t, h, hbusError, hpoll, hbusError ▸ getValues_of_fault ln pow alt hpoll hfault⟩

end Sys2Proof.Machine
end

section
/-! What the host observes after each completed operation (`10_state.md` R24, R35): which registers each update leaves as
they were observed, and the contents of those it writes. -/

namespace Sys2Proof.Machine

variable {s : State} {r : Reg}

/-! ### The registers that an update leaves -/

@[simp] theorem observe_transact (e : BusEvent) (r : Reg) : observe (transact e s) r = observe s r := by
  cases r <;> rfl

@[simp] theorem observe_wait (us : Nat) (r : Reg) : observe (wait us s) r = observe s r := by
  cases r <;> rfl

theorem observe_complete (h : r ≠ .status) : observe (complete s) r = observe s r := by
  cases r with
  | status => exact absurd rfl h
  | _ => rfl

theorem observe_clearTfValid (h : r ≠ .tfValid) : observe (clearTfValid s) r = observe s r := by
  cases r with
  | tfValid => exact absurd rfl h
  | _ => rfl

theorem observe_commitCalibration (osr : Nat) (a : ByteVec 26) (b : ByteVec 7)
    (h : r ∈ [Reg.adcP, .adcT, .adcH, .tFine, .tfValid, .temp, .press, .hum]) :
    observe (commitCalibration osr a b s) r = observe s r := by
  cases r with
  | adcP | adcT | adcH | tFine | tfValid | temp | press | hum => rfl
  | _ => simp at h

theorem observe_commitRaw (raw : ByteVec 8) (h : r ∉ [Reg.adcP, .adcT, .adcH, .phase]) :
    observe (commitRaw raw s) r = observe s r := by
  cases r with
  | adcP | adcT | adcH | phase => simp at h
  | _ => rfl

theorem observe_writeTemperature (tFine temp : Int) (h : r ∉ [Reg.tFine, .temp, .tfValid]) :
    observe (writeTemperature tFine temp s) r = observe s r := by
  cases r with
  | tFine | temp | tfValid => simp at h
  | _ => rfl

theorem observe_writePressure (press : Int) (h : r ≠ .press) : observe (writePressure press s) r = observe s r := by
  cases r with
  | press => exact absurd rfl h
  | _ => rfl

theorem observe_writeHumidity (hum : Int) (h : r ∉ [Reg.hum, .phase, .tfValid]) :
    observe (writeHumidity hum s) r = observe s r := by
  cases r with
  | hum | phase | tfValid => simp at h
  | _ => rfl

/-! ### The contents of the registers that INIT and SAMPLE write, over the integers -/

theorem byte_toInt_int (x : Byte) :
    x.toInt = if (x.toNat : Int) < 128 then (x.toNat : Int) else x.toNat - 256 := by
  rw [byte_toInt]
  norm_cast

theorem s12Lo_toInt_int (msb shared : Byte) : (s12Lo msb shared).toInt =
    16 * (if (msb.toNat : Int) < 128 then (msb.toNat : Int) else msb.toNat - 256) + shared.toNat % 16 := by
  rw [s12Lo_toInt, byte_toInt_int]

theorem s12Hi_toInt_int (msb shared : Byte) : (s12Hi msb shared).toInt =
    16 * (if (msb.toNat : Int) < 128 then (msb.toNat : Int) else msb.toNat - 256) + shared.toNat / 16 := by
  rw [s12Hi_toInt, byte_toInt_int]

theorem ofNat_be24_shiftRight_toNat_int (b0 b1 b2 : Byte) : ((BitVec.ofNat 20 (be24 b0 b1 b2 >>> 4)).toNat : Int) =
    (65536 * b0.toNat + 256 * b1.toNat + b2.toNat) / 16 := by
  exact_mod_cast ofNat_be24_shiftRight_toNat b0 b1 b2

theorem ofNat_be16_toNat_int (hi lo : Byte) :
    ((BitVec.ofNat 16 (256 * hi.toNat + lo.toNat)).toNat : Int) = 256 * hi.toNat + lo.toNat := by
  exact_mod_cast ofNat_be16_toNat hi lo

/-- A legal mode fits the register OSR (R26). -/
theorem ofNat_osr_toNat_int {osr : Nat} (h : osr ≤ 5) : ((BitVec.ofNat 3 osr).toNat : Int) = osr := by
  rw [BitVec.toNat_ofNat, Nat.mod_eq_of_lt (by omega)]

/-! ### The obligations -/

/-- Settles O59: every trim holds a value after INIT, and its contents are the fields of the two blocks; a register that
INIT does not write is observed as before. -/
theorem hostObservesCalibrationAfterInit : Obligations.HostObservesCalibrationAfterInit := by
  intro s osr hp hlo hhi h0 h1 h2 a b s8 s16 a16
  have hu16 (lo hi : Byte) := congrArg some (u16le_toNat_int lo hi)
  have hs16 (lo hi : Byte) := congrArg some (u16le_toInt lo hi)
  refine ⟨_, exec_init_completes hp (legalMode_iff.2 ⟨hlo, hhi⟩) h0 h1 h2, ⟨hu16 _ _, hs16 _ _, hs16 _ _⟩,
    ⟨hu16 _ _, hs16 _ _, hs16 _ _, hs16 _ _, hs16 _ _, hs16 _ _, hs16 _ _, hs16 _ _, hs16 _ _⟩,
    ⟨rfl, hs16 _ _, rfl, congrArg some (s12Lo_toInt_int _ _), congrArg some (s12Hi_toInt_int _ _),
      congrArg some (byte_toInt_int _)⟩,
    ⟨congrArg some (ofNat_osr_toNat_int hhi), rfl, rfl⟩, fun r hr => ?frame⟩
  case frame =>
    have hstatus : r ≠ .status := by
      rintro rfl
      simp at hr
    simp [observe_complete hstatus, observe_commitCalibration _ _ _ hr]

/-- A SAMPLE that completes leaves what it does not write as it was observed. -/
theorem observe_afterSample (h : r ∉ [Reg.adcP, .adcT, .adcH, .phase, .tfValid, .status]) :
    observe (afterSample s) r = observe s r := by
  simp only [List.mem_cons, List.not_mem_nil, or_false, not_or] at h
  simp [observe_complete, observe_commitRaw, observe_clearTfValid, h]

theorem observe_afterCompt (h : r ∉ [Reg.tFine, .temp, .tfValid, .status]) :
    observe (afterCompt s) r = observe s r := by
  simp only [List.mem_cons, List.not_mem_nil, or_false, not_or] at h
  simp [observe_complete, observe_writeTemperature, h]

theorem observe_afterCompp (h : r ∉ [Reg.press, .status]) : observe (afterCompp s) r = observe s r := by
  simp only [List.mem_cons, List.not_mem_nil, or_false, not_or] at h
  simp [observe_complete, observe_writePressure, h]

theorem observe_afterComph (h : r ∉ [Reg.hum, .phase, .tfValid, .status]) :
    observe (afterComph s) r = observe s r := by
  simp only [List.mem_cons, List.not_mem_nil, or_false, not_or] at h
  simp [observe_complete, observe_writeHumidity, h]

/-- Settles O60: the state each operation completes in is known; the counts are the burst's, the results what the
operation writes, and the rest is observed as before. -/
theorem hostObservesSampleAndResults : Obligations.HostObservesSampleAndResults := by
  refine ⟨fun s hp h0 h1 h2 => ⟨_, exec_sample_completes hp h0 h1 h2, ?counts⟩,
    fun s hp => ⟨_, exec_compt_admitted hp, rfl, rfl, rfl, rfl, fun _ => observe_afterCompt⟩,
    fun s hp hv => ⟨⟨_, exec_compp_admitted hp hv, rfl, rfl, fun _ => observe_afterCompp⟩,
      ⟨_, exec_comph_admitted hp hv, rfl, rfl, rfl, rfl, fun _ => observe_afterComph⟩⟩⟩
  case counts =>
    exact ⟨congrArg some (ofNat_be24_shiftRight_toNat_int _ _ _),
      congrArg some (ofNat_be24_shiftRight_toNat_int _ _ _), congrArg some (ofNat_be16_toNat_int _ _),
      rfl, rfl, rfl, fun _ => observe_afterSample⟩

end Sys2Proof.Machine
end

section
/-! No operation reads a register that holds no value (`10_state.md` R24): the relation of two states that look the same
to the host is kept by every update, and every operation makes the same updates in both. -/

namespace Sys2Proof.Machine

variable {s s' t t' : State} {i : Instr} {osr : Nat}

/-- The two states look the same to the host, and agree on what is no register: the parameters, the inputs, the sensor's
answers and the trace. They may differ behind registers that hold no value. -/
structure LooksSame (s s' : State) : Prop where
  observe_eq : ∀ r : Reg, observe s r = observe s' r
  config_eq : s.config = s'.config
  inputs_eq : s.inputs = s'.inputs
  answers_eq : s.answers = s'.answers
  busCount_eq : s.busCount = s'.busCount
  trace_eq : s.trace = s'.trace

namespace LooksSame

/-! ### What two such states agree on -/

theorem phase_eq (h : LooksSame s s') : s.phase = s'.phase := (observe_agree_iff.1 h.observe_eq).1

theorem tfValid_eq (h : LooksSame s s') : s.tfValid = s'.tfValid := (observe_agree_iff.1 h.observe_eq).2.1

theorem busOk_eq (h : LooksSame s s') (k : Nat) : busOk s k = busOk s' k := busOk_congr h.answers_eq h.busCount_eq k

theorem busByte_eq (h : LooksSame s s') (k j : Nat) : busByte s k j = busByte s' k j :=
  busByte_congr h.answers_eq h.busCount_eq k j

/-- From INIT on the trims and OSR hold a value (R24, R28). -/
theorem cal_eq_and_osr_eq (h : LooksSame s s') (hl : Lifecycle s) (hp : s.phase ≠ .uninitialized) :
    s.cal = s'.cal ∧ s.osr = s'.osr := by
  obtain ⟨_, hheld, _, _⟩ := hl
  obtain ⟨_, _, _, _, hcal, _⟩ := observe_agree_iff.1 h.observe_eq
  obtain ⟨hwritten, _⟩ := hheld hp
  exact hcal hwritten

/-- In Sampling the counts hold a value (R28). -/
theorem raw_eq (h : LooksSame s s') (hl : Lifecycle s) (hp : s.phase = .sampling) : s.raw = s'.raw := by
  obtain ⟨_, _, hraw, _⟩ := hl
  obtain ⟨_, _, _, _, _, hrawEq, _⟩ := observe_agree_iff.1 h.observe_eq
  exact hrawEq (hraw hp)

/-- While TF_VALID is 1 T_FINE holds a value (R29). -/
theorem tFine_eq (h : LooksSame s s') (hl : Lifecycle s) (hv : s.tfValid = true) : s.tFine = s'.tFine := by
  obtain ⟨_, _, _, hvalid⟩ := hl
  obtain ⟨_, hwritten⟩ := hvalid hv
  obtain ⟨_, _, _, _, _, _, htFine, _⟩ := observe_agree_iff.1 h.observe_eq
  exact (htFine hwritten).1

/-! ### The updates keep it -/

/-- The relation field by field: what `observe_agree_iff` says of the registers, and the records that are no register. -/
theorem iff_fields : LooksSame s s' ↔
    (s.phase = s'.phase ∧ s.tfValid = s'.tfValid ∧ s.status = s'.status ∧ s.written = s'.written ∧
      (s.written.calibration = true → s.cal = s'.cal ∧ s.osr = s'.osr) ∧ (s.written.raw = true → s.raw = s'.raw) ∧
      (s.written.tFine = true → s.tFine = s'.tFine ∧ s.temp = s'.temp) ∧
      (s.written.press = true → s.press = s'.press) ∧ (s.written.hum = true → s.hum = s'.hum)) ∧
    s.config = s'.config ∧ s.inputs = s'.inputs ∧ s.answers = s'.answers ∧ s.busCount = s'.busCount ∧
    s.trace = s'.trace := by
  rw [← observe_agree_iff]
  constructor
  · rintro ⟨hobs, hconfig, hinputs, hanswers, hcount, htrace⟩
    exact ⟨hobs, hconfig, hinputs, hanswers, hcount, htrace⟩
  · rintro ⟨hobs, hconfig, hinputs, hanswers, hcount, htrace⟩
    exact ⟨hobs, hconfig, hinputs, hanswers, hcount, htrace⟩

section Updates

variable (h : LooksSame s s')
include h

theorem raise (f : Status) : LooksSame (raise f s) (raise f s') := by
  rw [iff_fields] at *
  simp_all

theorem complete : LooksSame (complete s) (complete s') := by
  rw [iff_fields] at *
  simp_all

theorem transact (e : BusEvent) : LooksSame (transact e s) (transact e s') := by
  rw [iff_fields] at *
  simp_all

theorem wait (us : Nat) : LooksSame (wait us s) (wait us s') := by
  rw [iff_fields] at *
  simp_all

theorem clearTfValid : LooksSame (clearTfValid s) (clearTfValid s') := by
  rw [iff_fields] at *
  simp_all

theorem sampleBusError : LooksSame (sampleBusError s) (sampleBusError s') := by
  rw [iff_fields] at *
  simp_all

theorem commitCalibration (osr : Nat) (a : ByteVec 26) (b : ByteVec 7) :
    LooksSame (commitCalibration osr a b s) (commitCalibration osr a b s') := by
  rw [iff_fields] at *
  simp_all

theorem commitRaw (r : ByteVec 8) : LooksSame (commitRaw r s) (commitRaw r s') := by
  rw [iff_fields] at *
  simp_all

theorem writeTemperature (tFine temp : Int) :
    LooksSame (writeTemperature tFine temp s) (writeTemperature tFine temp s') := by
  rw [iff_fields] at *
  simp_all

theorem writePressure (press : Int) : LooksSame (writePressure press s) (writePressure press s') := by
  rw [iff_fields] at *
  simp_all

theorem writeHumidity (hum : Int) : LooksSame (writeHumidity hum s) (writeHumidity hum s') := by
  rw [iff_fields] at *
  simp_all

/-! ### The transactions keep it -/

theorem afterBlockA (ok : Bool) : LooksSame (afterBlockA ok s) (afterBlockA ok s') := by
  rw [Machine.afterBlockA, h.config_eq]
  exact h.transact _

theorem afterBlockB (ok : Bool) : LooksSame (afterBlockB ok s) (afterBlockB ok s') := by
  rw [Machine.afterBlockB, h.config_eq]
  exact (h.afterBlockA true).transact _

theorem afterInitControl (ok : Bool) : LooksSame (afterInitControl ok s) (afterInitControl ok s') := by
  rw [Machine.afterInitControl, h.config_eq]
  exact (h.afterBlockB true).transact _

variable (hosr : s.osr = s'.osr)
include hosr

theorem afterHumWrite (ok : Bool) : LooksSame (afterHumWrite ok s) (afterHumWrite ok s') := by
  rw [Machine.afterHumWrite, h.config_eq, hosr]
  exact h.clearTfValid.transact _

theorem afterTrigger (ok : Bool) : LooksSame (afterTrigger ok s) (afterTrigger ok s') := by
  rw [Machine.afterTrigger, h.config_eq, hosr]
  exact (h.afterHumWrite hosr true).transact _

theorem afterBurst (ok : Bool) : LooksSame (afterBurst ok s) (afterBurst ok s') := by
  rw [Machine.afterBurst, h.config_eq, hosr]
  exact ((h.afterTrigger hosr true).wait _).transact _

end Updates

/-! ### The operations keep it -/

theorem exec_init (h : LooksSame s s') (he : exec (.init osr) s = .next t) (he' : exec (.init osr) s' = .next t') :
    LooksSame t t' := by
  obtain ⟨hp, rfl⟩ | ⟨hp, hm, rfl⟩ | ⟨hp, hm, hbus⟩ := execInit_cases he
  · cases he'.symm.trans (exec_init_refused (h.phase_eq ▸ hp))
    exact h.raise _
  · cases he'.symm.trans (exec_init_illegalMode (h.phase_eq ▸ hp) hm)
    exact h.raise _
  · rw [h.phase_eq] at hp
    simp only [h.busOk_eq, h.busByte_eq] at hbus
    obtain ⟨h0, rfl⟩ | ⟨h0, h1, rfl⟩ | ⟨h0, h1, h2, rfl⟩ | ⟨h0, h1, h2, rfl⟩ := hbus
    · cases he'.symm.trans (exec_init_blockA_fails hp hm h0)
      exact (h.afterBlockA _).raise _
    · cases he'.symm.trans (exec_init_blockB_fails hp hm h0 h1)
      exact (h.afterBlockB _).raise _
    · cases he'.symm.trans (exec_init_control_fails hp hm h0 h1 h2)
      exact (h.afterInitControl _).raise _
    · cases he'.symm.trans (exec_init_completes hp hm h0 h1 h2)
      exact ((h.afterInitControl _).commitCalibration _ _ _).complete

/-- SAMPLE reads OSR, and is admitted only where OSR holds a value. -/
theorem exec_sample (h : LooksSame s s') (hl : Lifecycle s) (he : exec .sample s = .next t)
    (he' : exec .sample s' = .next t') : LooksSame t t' := by
  obtain ⟨hp, rfl⟩ | ⟨hp, hbus⟩ := execSample_cases he
  · cases he'.symm.trans (exec_sample_refused (h.phase_eq ▸ hp))
    exact h.raise _
  · obtain ⟨_, hosr⟩ := h.cal_eq_and_osr_eq hl hp
    rw [h.phase_eq] at hp
    simp only [h.busOk_eq, h.busByte_eq] at hbus
    obtain ⟨h0, rfl⟩ | ⟨h0, h1, rfl⟩ | ⟨h0, h1, h2, rfl⟩ | ⟨h0, h1, h2, rfl⟩ := hbus
    · cases he'.symm.trans (exec_sample_humWrite_fails hp h0)
      exact (h.afterHumWrite hosr _).sampleBusError
    · cases he'.symm.trans (exec_sample_trigger_fails hp h0 h1)
      exact (h.afterTrigger hosr _).sampleBusError
    · cases he'.symm.trans (exec_sample_burst_fails hp h0 h1 h2)
      exact (h.afterBurst hosr _).sampleBusError
    · cases he'.symm.trans (exec_sample_completes hp h0 h1 h2)
      exact ((h.afterBurst hosr _).commitRaw _).complete

/-- COMPT reads the trims and the raw sample, and is admitted only where both hold a value. -/
theorem exec_compt (h : LooksSame s s') (hl : Lifecycle s) (he : exec .compt s = .next t)
    (he' : exec .compt s' = .next t') : LooksSame t t' := by
  obtain ⟨hp, rfl⟩ | ⟨hp, rfl⟩ := execCompt_cases he
  · cases he'.symm.trans (exec_compt_refused (h.phase_eq ▸ hp))
    exact h.raise _
  · obtain ⟨hcal, _⟩ := h.cal_eq_and_osr_eq hl (by simp [hp])
    cases he'.symm.trans (exec_compt_admitted (h.phase_eq ▸ hp))
    rw [afterCompt, ← hcal, ← h.raw_eq hl hp]
    exact (h.writeTemperature _ _).complete

/-- COMPP also reads T_FINE, and is admitted only where it holds a value. -/
theorem exec_compp (h : LooksSame s s') (hl : Lifecycle s) (he : exec .compp s = .next t)
    (he' : exec .compp s' = .next t') : LooksSame t t' := by
  obtain ⟨ha, rfl⟩ | ⟨⟨hp, hv⟩, rfl⟩ := execCompp_cases he
  · cases he'.symm.trans (exec_compp_refused (h.phase_eq ▸ h.tfValid_eq ▸ ha))
    exact h.raise _
  · obtain ⟨hcal, _⟩ := h.cal_eq_and_osr_eq hl (by simp [hp])
    cases he'.symm.trans (exec_compp_admitted (h.phase_eq ▸ hp) (h.tfValid_eq ▸ hv))
    rw [afterCompp, ← hcal, ← h.raw_eq hl hp, ← h.tFine_eq hl hv, ← h.config_eq]
    exact (h.writePressure _).complete

/-- COMPH reads as COMPP does, but not the parameters. -/
theorem exec_comph (h : LooksSame s s') (hl : Lifecycle s) (he : exec .comph s = .next t)
    (he' : exec .comph s' = .next t') : LooksSame t t' := by
  obtain ⟨ha, rfl⟩ | ⟨⟨hp, hv⟩, rfl⟩ := execComph_cases he
  · cases he'.symm.trans (exec_comph_refused (h.phase_eq ▸ h.tfValid_eq ▸ ha))
    exact h.raise _
  · obtain ⟨hcal, _⟩ := h.cal_eq_and_osr_eq hl (by simp [hp])
    cases he'.symm.trans (exec_comph_admitted (h.phase_eq ▸ hp) (h.tfValid_eq ▸ hv))
    rw [afterComph, ← hcal, ← h.raw_eq hl hp, ← h.tFine_eq hl hv]
    exact (h.writeHumidity _).complete

theorem exec (h : LooksSame s s') (hl : Lifecycle s) (he : exec i s = .next t) (he' : exec i s' = .next t') :
    LooksSame t t' := by
  cases i with
  | init osr => exact h.exec_init he he'
  | sample => exact h.exec_sample hl he he'
  | compt => exact h.exec_compt hl he he'
  | compp => exact h.exec_compp hl he he'
  | comph => exact h.exec_comph hl he he'

end LooksSame

/-- Settles O44: the hypotheses are the relation, which every operation keeps. -/
theorem unwrittenRegistersNeverRead : Obligations.UnwrittenRegistersNeverRead := by
  intro i s s' t t' hl _ hconfig hinputs hanswers hcount htrace hobs he he'
  have h : LooksSame s s' := ⟨hobs, hconfig, hinputs, hanswers, hcount, htrace⟩
  have h' : LooksSame t t' := h.exec hl he he'
  exact ⟨h'.observe_eq, h'.config_eq, h'.inputs_eq, h'.answers_eq, h'.busCount_eq, h'.trace_eq⟩

end Sys2Proof.Machine
end
